-- ==== Sys2Proof/Word.lean ====
section
/-! DEFINITION. The one data width of the block: a byte (spec R4 `REGW`, R6). No quantity is wider (R33). -/

namespace Sys2Proof

/-- Eight bits, bit 7 the most significant (R6). -/
abbrev Byte := BitVec 8

end Sys2Proof
end

