-- ==== Sys2Proof/Config.lean ====
section
/-! DEFINITION. The implementation parameters of spec R4, one named constant each (U9: the spec's literals were not audited
against the repository, so each stands in one place), and the values the spec leaves OPEN, as constants without a body. -/

namespace Sys2Proof.Config

/-- `N`, the capacity of the Command Buffer in bytes (R4, D13). -/
abbrev capacity : Nat := 16

/-- `FILL_MAX = N - 1`, the largest fill length; the buffer is full there (R4, R71, C3). -/
abbrev fillMax : Nat := capacity - 1

/-- `STATUS_IDLE`, the idle baseline of `status`: LL only (R4, R16). -/
abbrev statusIdle : Byte := 0x08#8

/-- `STATUS_RESET`, the value RESET writes: LL and RST (R4, R92). -/
abbrev statusReset : Byte := 0x18#8

/-- `OP_RESET` (R4, R54). -/
abbrev opReset : Byte := 0xF0#8

/-- `OP_SET_READ_PTR` (R4, R54). -/
abbrev opSetReadPtr : Byte := 0xE1#8

/-- `OP_CHANNEL_SELECT` (R4, R54). -/
abbrev opChannelSelect : Byte := 0xC3#8

/-- The six "other bridge opcodes" the document lists by value (R54, R96 to R101). -/
abbrev opUnkD2 : Byte := 0xD2#8
/-- R97. -/
abbrev opUnkB4 : Byte := 0xB4#8
/-- R98. -/
abbrev opUnk87 : Byte := 0x87#8
/-- R99. -/
abbrev opUnkA5 : Byte := 0xA5#8
/-- R100. -/
abbrev opUnk96 : Byte := 0x96#8
/-- R101. -/
abbrev opUnk78 : Byte := 0x78#8

/-- `SEL_STATUS`, the one implemented read-pointer selector (R4, R32). -/
abbrev selStatus : Byte := 0xF0#8

/-- `RP_RESET`, `read_pointer` after power-on (R4; the spec's decision D10, log 9). -/
abbrev rpReset : Byte := 0xF0#8

/-- `CH_RESET`, `selected_channel` after power-on: OPEN, any byte, fixed for a run (R4, R24, D11). A free value: no body,
so nothing can be proved of it (log 3). -/
opaque chReset : Byte

/-- `UNDEF_READ`: the byte that the `n`-th draw gives to a read through an unsupported pointer (R7 `draw()`, R112, D16). A free
value: no body (log 4). -/
opaque undefRead : Nat → Byte

/-- What buffer slot `i` holds before anything has been stored in it since power-on: unspecified (R11, R24, D12). A free
value: no body (log 5). -/
opaque bufPowerOn : Nat → Byte

end Sys2Proof.Config
end

