-- ==== Sys2Proof/Syntax.lean ====
section
/-! DEFINITION. The commands: one constructor of `Instr` per row of spec/opcode_table.json (R54). -/

namespace Sys2Proof

/-- The two commands of format CP, those that take a parameter byte (R50, R52). -/
inductive ParamCommand where
  | setReadPtr
  | channelSelect
deriving DecidableEq, Repr

/-- A complete command as byte 0 and, for format CP, byte 1 give it (R50 to R54). -/
inductive Instr where
  /-- RESET, 0xF0, format C (R92). -/
  | reset
  /-- SET_READ_PTR, 0xE1, format CP: the register selector (R53, R93). -/
  | setReadPtr (sel : Byte)
  /-- CHANNEL_SELECT, 0xC3, format CP: the channel id (R53, R94). -/
  | channelSelect (ch : Byte)
  /-- UNK_D2, listed and unknown (R96). -/
  | unkD2
  /-- UNK_B4 (R97). -/
  | unkB4
  /-- UNK_87 (R98). -/
  | unk87
  /-- UNK_A5 (R99). -/
  | unkA5
  /-- UNK_96 (R100). -/
  | unk96
  /-- UNK_78 (R101). -/
  | unk78
  /-- UNKNOWN: any of the 247 values of byte 0 that no other row matches (R95). -/
  | unknown (opcode : Byte)
deriving DecidableEq, Repr

end Sys2Proof
end

