-- ==== Sys2Proof/WellFormed.lean ====
section
/-! DEFINITION. Which terms of `Instr` stand for a command. The one check: the catch-all row of the opcode table is tried last
(R66), so `unknown c` stands for a command only when `c` is none of the nine opcodes with a row of their own. Every parameter
value is legal (R53, R60, R61). -/

namespace Sys2Proof

/-- The nine values of byte 0 with a priority-1 row (R54, R66). -/
def listedOpcodes : List Byte :=
  [Config.opReset, Config.opSetReadPtr, Config.opChannelSelect, Config.opUnkD2, Config.opUnkB4, Config.opUnk87,
    Config.opUnkA5, Config.opUnk96, Config.opUnk78]

/-- The check, constructor by constructor. -/
def Instr.wellFormed : Instr → Bool
  | .reset => true
  | .setReadPtr _ => true
  | .channelSelect _ => true
  | .unkD2 => true
  | .unkB4 => true
  | .unk87 => true
  | .unkA5 => true
  | .unk96 => true
  | .unk78 => true
  | .unknown c => decide (c ∉ listedOpcodes)

/-- `i` stands for a command the block can receive. -/
abbrev Instr.WellFormed (i : Instr) : Prop := i.wellFormed = true

end Sys2Proof
end

