-- ==== Sys2Proof/Decode.lean ====
section
/-! DEFINITION. Command decoding, total on every byte string (R50 to R54, R66), and the encoder written from the same table.
The two byte strings that are no complete command are rejected by name (R58, R72). -/

namespace Sys2Proof

/-- Why a byte string is no complete command. -/
inductive DecodeRefusal where
  /-- No byte at all: byte 0 is "defined only when fill length ≥ 1" (R72). -/
  | emptyBuffer
  /-- A CP opcode whose parameter byte has not arrived (R52, R58). -/
  | parameterMissing (c : ParamCommand)
deriving DecidableEq, Repr

/-- The opcode of a format CP command (R52, R54). -/
def ParamCommand.opcode : ParamCommand → Byte
  | .setReadPtr => Config.opSetReadPtr
  | .channelSelect => Config.opChannelSelect

/-- A format CP command with its parameter byte, taken as it stands (R53). -/
def ParamCommand.withParam : ParamCommand → Byte → Instr
  | .setReadPtr, p => .setReadPtr p
  | .channelSelect, p => .channelSelect p

/-- The row of a byte 0 that is none of the three implemented opcodes: one of the six listed by value, else the catch-all
(R54, R95 to R101). -/
def unknownInstr (c : Byte) : Instr :=
  if c = Config.opUnkD2 then .unkD2
  else if c = Config.opUnkB4 then .unkB4
  else if c = Config.opUnk87 then .unk87
  else if c = Config.opUnkA5 then .unkA5
  else if c = Config.opUnk96 then .unk96
  else if c = Config.opUnk78 then .unk78
  else .unknown c

/-- The parameter byte of a format CP command and the trailing bytes, or the wait (R52, R58). -/
def decodeParam (c : ParamCommand) : List Byte → Except DecodeRefusal (Instr × List Byte)
  | [] => .error (.parameterMissing c)
  | p :: rest => .ok (c.withParam p, rest)

/-- The command at the head of a byte string and the trailing bytes: exact match on all 8 bits of byte 0, in the order of
precedence of R66. -/
def decode : List Byte → Except DecodeRefusal (Instr × List Byte)
  | [] => .error .emptyBuffer
  | c :: rest =>
    if c = Config.opReset then .ok (.reset, rest)
    else if c = Config.opSetReadPtr then decodeParam .setReadPtr rest
    else if c = Config.opChannelSelect then decodeParam .channelSelect rest
    else .ok (unknownInstr c, rest)

/-- The length in bytes of the command that byte 0 selects: "2 bytes for 0xE1 and 0xC3, 1 byte otherwise" (R50). -/
def commandLength (c : Byte) : Nat :=
  if c = Config.opSetReadPtr ∨ c = Config.opChannelSelect then 2 else 1

/-- Byte 0 of a command (R54). -/
def Instr.opcode : Instr → Byte
  | .reset => Config.opReset
  | .setReadPtr _ => Config.opSetReadPtr
  | .channelSelect _ => Config.opChannelSelect
  | .unkD2 => Config.opUnkD2
  | .unkB4 => Config.opUnkB4
  | .unk87 => Config.opUnk87
  | .unkA5 => Config.opUnkA5
  | .unk96 => Config.opUnk96
  | .unk78 => Config.opUnk78
  | .unknown c => c

/-- The parameter bytes of a command: one for format CP, none for format C (R51 to R53). -/
def Instr.params : Instr → List Byte
  | .reset => []
  | .setReadPtr p => [p]
  | .channelSelect p => [p]
  | .unkD2 => []
  | .unkB4 => []
  | .unk87 => []
  | .unkA5 => []
  | .unk96 => []
  | .unk78 => []
  | .unknown _ => []

/-- The bytes of a command in the order the master sends them (R33, R51, R52). -/
def encode (i : Instr) : List Byte := i.opcode :: i.params

/-- The two bytes of an instruction whose bits are `w`, `nbits` of them given and the rest 0: bits 7..0 are byte 0, bits 15..8
byte 1 (spec/opcode_table.json's numbering; the longest command has two bytes, R50). -/
def tableBytes (nbits w : Nat) : Byte × Byte :=
  let v := w % 2 ^ nbits
  (BitVec.ofNat 8 v, BitVec.ofNat 8 (v / 256))

/-- The decoder on an instruction of the opcode table given as a number. -/
def decodeTableWord (nbits w : Nat) : Option Instr :=
  match decode [(tableBytes nbits w).1, (tableBytes nbits w).2] with
  | .ok (i, _) => some i
  | .error _ => none

end Sys2Proof
end

