-- ==== Sys2Proof/Machine/State.lean ====
section
/-! DEFINITION. The state of the block as plain data: the eight items of spec R10 and the model's own fields for what goes in
(events) and out (returned bytes, diagnostic records) of it. -/

namespace Sys2Proof.Machine

/-- Why the machine stops: never. "No condition is fatal; the system always returns to `Idle` and keeps serving the transport"
(R120); no condition traps (R128) and nothing wedges the block (R153). So no constructor: nobody raises a fault (log 15). -/
inductive Fault
deriving DecidableEq, Repr

/-- Why a command has no meaning in this model. -/
inductive Refusal where
  /-- Raised only by an arm of `exec` whose command has no meaning yet; safe. No arm is left in that state. -/
  | notModelled (mnemonic : String)
deriving DecidableEq, Repr

/-- The Command Buffer's slots that have been stored to since power-on, as pairs of slot index and byte, indices strictly rising
(R11, R30). What an unlisted slot holds is unspecified: `Config.bufPowerOn` (log 5). -/
abbrev Memory := List Host.Cell

/-- An index of the buffer index space, 0 to 15, 4 bits (R30, D14). -/
abbrev SlotIndex := Fin Config.capacity

/-- The Dispatcher's state between events (R20). `Ready` is passed through inside a `Tick` and never held. -/
inductive Disp where
  /-- "No pending command bytes to interpret." -/
  | idle
  /-- `AwaitParam(c)`: command byte seen, its one parameter byte not yet arrived. -/
  | awaitParam (c : ParamCommand)
deriving DecidableEq, Repr

/-- The five events (R5). -/
inductive Event where
  /-- Power is applied (R140). -/
  | powerOn
  /-- An inbound I2C write transaction begins (R75). -/
  | rxStart
  /-- One inbound data byte is delivered (R76). -/
  | rxByte (b : Byte)
  /-- The master asks for one byte (R110). -/
  | rdReq
  /-- The main loop gives the Dispatcher a turn (R90). -/
  | tick
deriving DecidableEq, Repr

/-- The diagnostic records (R131). -/
inductive Diag where
  /-- `DiagRx(b)`: every byte received, stored or not. -/
  | rx (b : Byte)
  /-- `DiagOverflow(b)`: condition (a), the dropped byte (R121). -/
  | overflow (b : Byte)
  /-- `DiagCmd(RESET)`. -/
  | cmdReset
  /-- `DiagCmd(SET_READ_PTR, p)`. -/
  | cmdSetReadPtr (p : Byte)
  /-- `DiagCmd(CHANNEL_SELECT, p)`. -/
  | cmdChannelSelect (p : Byte)
  /-- `DiagUnknown(c)`: condition (b), byte 0 (R122). -/
  | unknown (c : Byte)
  /-- `DiagStatusRead(v)`: the status value returned. -/
  | statusRead (v : Byte)
  /-- `DiagUnsupportedRead(p)`: condition (c), the pointer (R123). -/
  | unsupportedRead (p : Byte)
deriving DecidableEq, Repr

/-- The block (R10) with its inputs and outputs. -/
structure State where
  /-- `buf[0..15]` (R11). -/
  buf : Memory
  /-- `fill`, the number of valid slots (R12). -/
  fill : SlotIndex
  /-- `rd_cur`, the read cursor (R13). -/
  rdCur : SlotIndex
  /-- `rx_skip`, the rest of this transaction is ignored (R14). -/
  rxSkip : Bool
  /-- `disp`, the Dispatcher's state (R20). -/
  disp : Disp
  /-- `status`, read-and-clear (R15, R16). -/
  status : Byte
  /-- `selected_channel` (R18). -/
  selectedChannel : Byte
  /-- `read_pointer` (R19). -/
  readPointer : Byte
  /-- The model's own: the events the environment has still to deliver, oldest first (R38; log 1). -/
  pending : List Event
  /-- The model's own: draws taken so far (R7 `draw()`; log 4). -/
  draws : Nat
  /-- The model's own: the bytes `RdReq` events have returned, oldest first (R110, D27; log 8). -/
  returned : List Byte
  /-- The model's own: the diagnostic records emitted, oldest first (R131; log 8). -/
  diag : List Diag
deriving DecidableEq, Repr

/-- The block right after `PowerOn` (R24, R140), with no event pending and nothing put out yet. -/
def State.reset : State where
  buf := []
  fill := 0
  rdCur := 0
  rxSkip := false
  disp := .idle
  status := Config.statusIdle
  selectedChannel := Config.chReset
  readPointer := Config.rpReset
  pending := []
  draws := 0
  returned := []
  diag := []

end Sys2Proof.Machine
end

