-- ==== Sys2Proof/Machine/Ops.lean ====
section
/-! DEFINITION. The named operations over the Command Buffer, the Register File and the outputs: the contract operations of spec
40_buffer_ops.md and 41_register_ops.md, each state update named once. There is no trap entry and no return (R128, R129); the
diagnostic record `State.emit` stands where taking an exception would (R7). -/

namespace Sys2Proof.Machine

/-! ### The buffer as memory -/

/-- The byte stored at index `a`, if anything has been stored there since power-on. -/
def Memory.read? : Memory → Nat → Option Byte
  | [], _ => none
  | (a', b) :: m, a => if a = a' then some b else Memory.read? m a

/-- Store `b` at index `a`, keeping the indices strictly rising (`MemWrite` of R7). -/
def Memory.write : Memory → Nat → Byte → Memory
  | [], a, b => [(a, b)]
  | (a', b') :: m, a, b =>
    if a < a' then (a, b) :: (a', b') :: m
    else if a = a' then (a, b) :: m
    else (a', b') :: Memory.write m a b

/-- The canonical form: indices strictly rising and inside the buffer index space (R30). An unlisted index reads as no value
here, so no entry can repeat one. -/
abbrev Memory.wf (m : Memory) : Prop :=
  m.Pairwise (fun x y => x.1 < y.1) ∧ ∀ c ∈ m, c.1 < Config.capacity

/-- `MemRead(i, 1)`, the byte in slot `i` (R7): what was last stored there, else the unspecified power-on content. -/
def State.slotByte (s : State) (i : SlotIndex) : Byte :=
  (s.buf.read? i.val).getD (Config.bufPowerOn i.val)

/-! ### Updates of the Command Buffer's counters and of the Dispatcher's state -/

/-- `reset()` of the buffer: `fill <- 0`, no slot erased (R70). -/
def State.clearFill (s : State) : State := { s with fill := 0 }

/-- Leave no wait and no skipping behind: what `RxStart` does beside `reset()` (R75). -/
def State.rearm (s : State) : State := { s with rdCur := 0, rxSkip := false, disp := .idle }

/-- `consume()`: the command is done, the rest of its transaction is ignored (R74). -/
def State.consume (s : State) : State := { s with fill := 0, rdCur := 0, rxSkip := true, disp := .idle }

/-- `await(c)`: hold the parameter wait (R102). -/
def State.await (c : ParamCommand) (s : State) : State := { s with disp := .awaitParam c, rdCur := 1 }

/-- The storing half of `append`: `buf[fill] <- b; fill <- fill + 1` as one step (R31, R36, R71). -/
def State.store (b : Byte) (s : State) : State :=
  { s with buf := s.buf.write s.fill.val b, fill := s.fill + 1 }

/-- `append(b)`: false and nothing changed when the buffer is full, that is `fill = N - 1`; else the byte is stored (R71). -/
def State.append (b : Byte) (s : State) : Bool × State :=
  if s.fill.val = Config.fillMax then (false, s) else (true, s.store b)

/-! ### The Register File -/

/-- Assignment of the whole `status` register. -/
def State.withStatus (v : Byte) (s : State) : State := { s with status := v }

/-- `set_channel(c)`: no check, no translation (R82). -/
def State.setChannel (c : Byte) (s : State) : State := { s with selectedChannel := c }

/-- `get_channel()` (R83). -/
def State.getChannel (s : State) : Byte := s.selectedChannel

/-- `set_read_pointer(p)`: no check (R84). -/
def State.setReadPointer (p : Byte) (s : State) : State := { s with readPointer := p }

/-- `get_read_pointer()` (R85). -/
def State.getReadPointer (s : State) : Byte := s.readPointer

/-- Observation port `get_status()`: does not clear (R25). -/
def State.getStatus (s : State) : Byte := s.status

/-- Observation port `get_fill()` (R25). -/
def State.getFill (s : State) : SlotIndex := s.fill

/-- Observation port `get_disp()` (R25). -/
def State.getDisp (s : State) : Disp := s.disp

/-! ### Inputs, outputs and draws -/

/-- `diag <Record>(info)`: append a record to the diagnostic output, change nothing else (R7, R131). -/
def State.emit (r : Diag) (s : State) : State := { s with diag := s.diag ++ [r] }

/-- `out <- v`: the byte goes to the transport (R7, R110). -/
def State.answer (v : Byte) (s : State) : State := { s with returned := s.returned ++ [v] }

/-- `draw()`: the next free byte (R7, R112). -/
def State.nextDraw (s : State) : Byte := Config.undefRead s.draws

/-- A draw has been taken; the next one is fresh. -/
def State.countDraw (s : State) : State := { s with draws := s.draws + 1 }

/-- The events still to come are `es`. -/
def State.withPending (es : List Event) (s : State) : State := { s with pending := es }

/-! ### The two procedures that several rules share -/

/-- `do_RESET()`: assigns `status`, leaves pointer and channel alone, consumes the buffer (R92). -/
def State.doReset (s : State) : State := ((s.withStatus Config.statusReset).emit .cmdReset).consume

/-- `exec_UNKNOWN(c)`: a record and the buffer consumed, no register changed (R95). -/
def State.unknownOutcome (c : Byte) (s : State) : State := (s.emit (.unknown c)).consume

end Sys2Proof.Machine
end

