-- ==== Sys2Proof/Machine/RegisterCommands.lean ====
section
/-! DEFINITION. The two commands that write a register with their parameter byte (spec R93, R94). -/

namespace Sys2Proof.Machine

/-- SET_READ_PTR: `read_pointer <- p`, every value accepted (R93). -/
def execSetReadPtr (p : Byte) (s : State) : Host.Outcome State Fault Refusal :=
  .next ((s.setReadPointer p).emit (.cmdSetReadPtr p)).consume

/-- CHANNEL_SELECT: `selected_channel <- p`, every value accepted (R94). -/
def execChannelSelect (p : Byte) (s : State) : Host.Outcome State Fault Refusal :=
  .next ((s.setChannel p).emit (.cmdChannelSelect p)).consume

end Sys2Proof.Machine
end

