-- ==== Sys2Proof/Machine/SystemCommands.lean ====
section
/-! DEFINITION. The system command of the opcode table: RESET (spec R92). -/

namespace Sys2Proof.Machine

/-- RESET: `do_RESET()` (R92). -/
def execReset (s : State) : Host.Outcome State Fault Refusal := .next s.doReset

end Sys2Proof.Machine
end

