-- ==== Sys2Proof/Machine/UnknownCommands.lean ====
section
/-! DEFINITION. The unknown-command outcome, for the six opcodes the document lists by value and for every other byte 0
(spec R95 to R101). None takes a parameter and none has an effect of the real bridge (R55). -/

namespace Sys2Proof.Machine

/-- UNK_D2 (R96). -/
def execUnkD2 (s : State) : Host.Outcome State Fault Refusal := .next (s.unknownOutcome Config.opUnkD2)

/-- UNK_B4 (R97). -/
def execUnkB4 (s : State) : Host.Outcome State Fault Refusal := .next (s.unknownOutcome Config.opUnkB4)

/-- UNK_87 (R98). -/
def execUnk87 (s : State) : Host.Outcome State Fault Refusal := .next (s.unknownOutcome Config.opUnk87)

/-- UNK_A5 (R99). -/
def execUnkA5 (s : State) : Host.Outcome State Fault Refusal := .next (s.unknownOutcome Config.opUnkA5)

/-- UNK_96 (R100). -/
def execUnk96 (s : State) : Host.Outcome State Fault Refusal := .next (s.unknownOutcome Config.opUnk96)

/-- UNK_78 (R101). -/
def execUnk78 (s : State) : Host.Outcome State Fault Refusal := .next (s.unknownOutcome Config.opUnk78)

/-- UNKNOWN (R95). -/
def execUnknown (c : Byte) (s : State) : Host.Outcome State Fault Refusal := .next (s.unknownOutcome c)

end Sys2Proof.Machine
end

