-- ==== Sys2Proof/Machine/Dispatch.lean ====
section
/-! DEFINITION. Which meaning each command has: one arm per row of spec/opcode_table.json. -/

namespace Sys2Proof.Machine

def exec (i : Instr) (s : State) : Host.Outcome State Fault Refusal :=
  match i with
  | .reset => Sys2Proof.Machine.execReset s
  | .setReadPtr p => Sys2Proof.Machine.execSetReadPtr p s
  | .channelSelect p => Sys2Proof.Machine.execChannelSelect p s
  | .unkD2 => Sys2Proof.Machine.execUnkD2 s
  | .unkB4 => Sys2Proof.Machine.execUnkB4 s
  | .unk87 => Sys2Proof.Machine.execUnk87 s
  | .unkA5 => Sys2Proof.Machine.execUnkA5 s
  | .unk96 => Sys2Proof.Machine.execUnk96 s
  | .unk78 => Sys2Proof.Machine.execUnk78 s
  | .unknown c => Sys2Proof.Machine.execUnknown c s

end Sys2Proof.Machine
end

