-- ==== Sys2Proof/Machine/Flags.lean ====
section
/-! DEFINITION. The bits of `status` and the two operations that compute it (spec R16, R80, R81). -/

namespace Sys2Proof.Machine

/-! ### Masks, most significant bit first (R16) -/

/-- DIR, bit 7. -/
abbrev maskDIR : Byte := 0x80#8
/-- TSB, bit 6. -/
abbrev maskTSB : Byte := 0x40#8
/-- SBR, bit 5. -/
abbrev maskSBR : Byte := 0x20#8
/-- RST, bit 4: a RESET command has been executed since the last status read (R141). -/
abbrev maskRST : Byte := 0x10#8
/-- LL, bit 3: line level, constantly 1 (R17). -/
abbrev maskLL : Byte := 0x08#8
/-- SD, bit 2. -/
abbrev maskSD : Byte := 0x04#8
/-- PPD, bit 1. -/
abbrev maskPPD : Byte := 0x02#8
/-- 1WB, bit 0. -/
abbrev mask1WB : Byte := 0x01#8

/-- Whether `status` has a bit of `mask` set. -/
def State.statusHas (mask : Byte) (s : State) : Bool := decide (s.status &&& mask ≠ 0#8)

/-- `read_status()`: returns `status` and sets the whole register to the idle baseline, in one step (R80, R40). -/
def State.readStatus (s : State) : Byte × State := (s.status, s.withStatus Config.statusIdle)

/-- `write_status_flags(mask)`: ORs bits into `status`. No event calls it (R81, D19). -/
def State.writeStatusFlags (mask : Byte) (s : State) : State := s.withStatus (s.status ||| mask)

end Sys2Proof.Machine
end

