-- ==== Sys2Proof/Machine/Operands.lean ====
section
/-! DEFINITION. Where a command's bytes are read from: byte 0 at index 0 and the parameter at index 1, the only two reads of the
buffer (spec R31, R52). -/

namespace Sys2Proof.Machine

/-- `has_parameter_at(index)`: `fill > index` (R73). -/
def State.hasParameterAt (s : State) (i : SlotIndex) : Bool := decide (i.val < s.fill.val)

/-- `first_command_byte()`, "defined only when fill length ≥ 1" (R72, U6). -/
def State.firstCommandByte? (s : State) : Option Byte :=
  if s.hasParameterAt 0 then some (s.slotByte 0) else none

/-- The parameter byte, always at index 1, once it has arrived (R34, R52, R53). -/
def State.parameter? (s : State) : Option Byte :=
  if s.hasParameterAt 1 then some (s.slotByte 1) else none

/-- What the Dispatcher sees of the buffer on a `Tick`: the valid bytes at indices 0 and 1 (R41, R90). -/
def State.fetchWindow (s : State) : List Byte :=
  match s.firstCommandByte? with
  | none => []
  | some c => c :: s.parameter?.toList

end Sys2Proof.Machine
end

