-- ==== Sys2Proof/Machine/Events.lean ====
section
/-! DEFINITION. The five events of spec R5, each a total function of the state and its argument, and the event sequences that the
spec names. -/

namespace Sys2Proof.Machine

/-- `PowerOn` (R140): the values of R24. What the environment still holds and what has been put out are outside the block and stay
(log 8); the buffer's content is unspecified again (log 6). -/
def powerOn (s : State) : State :=
  { s with
    buf := []
    fill := 0
    rdCur := 0
    rxSkip := false
    disp := .idle
    status := Config.statusIdle
    readPointer := Config.rpReset
    selectedChannel := Config.chReset }

/-- `RxStart` (R75): the buffer is emptied, a wait or an undispatched command is abandoned. -/
def rxStart (s : State) : State := s.clearFill.rearm

/-- The part of `RxByte` behind the `rx_skip` test: append, and the RESET fast path when 0xF0 was stored at index 0 (R76, R77). -/
def receiveByte (b : Byte) (s : State) : State :=
  match s.append b with
  | (false, t) => t.emit (.overflow b)
  | (true, t) => if s.fill = 0 ∧ b = Config.opReset then t.doReset else t

/-- `RxByte(b)` (R76): recorded always, ignored while `rx_skip` is set. -/
def rxByte (b : Byte) (s : State) : State :=
  if s.rxSkip then s.emit (.rx b) else receiveByte b (s.emit (.rx b))

/-- `RdReq` (R110): through 0xF0 the status is returned and cleared (R111), through any other pointer a draw is returned and no
state of the block changes (R112). -/
def rdReq (s : State) : State :=
  if s.getReadPointer = Config.selStatus then
    (s.readStatus.2.answer s.readStatus.1).emit (.statusRead s.readStatus.1)
  else (s.countDraw.answer s.nextDraw).emit (.unsupportedRead s.getReadPointer)

/-- `Tick` (R90): nothing on an empty buffer (R104), a wait on a format CP opcode without its parameter (R102), else the one
complete command the buffer holds is executed. It looks at the buffer alone, not at `disp`, `rd_cur` or `rx_skip`. -/
def tick (s : State) : Host.Outcome State Fault Refusal :=
  match decode s.fetchWindow with
  | .ok (i, _) => exec i s
  | .error .emptyBuffer => .next s
  | .error (.parameterMissing c) => .next (s.await c)

/-- Deliver one event to the block (R5, R36). -/
def deliver (e : Event) (s : State) : Host.Outcome State Fault Refusal :=
  match e with
  | .powerOn => .next (powerOn s)
  | .rxStart => .next (rxStart s)
  | .rxByte b => .next (rxByte b s)
  | .rdReq => .next (rdReq s)
  | .tick => tick s

/-- Take the oldest pending event and deliver it; with none pending the block waits unchanged (R5, R140; logs 1, 2). -/
def takeEvent (s : State) : Host.Outcome State Fault Refusal :=
  match s.pending with
  | [] => .next s
  | e :: es => deliver e (s.withPending es)

/-! ### Event sequences -/

/-- `W[b0 .. bk]`, the composite `on_bytes_received(bytes)` (R8, R78). -/
def transaction (bytes : List Byte) : List Event := .rxStart :: bytes.map .rxByte

/-- The pseudo-command READ_STATUS: `W[E1 F0]; T; R` (R64). -/
def pseudoReadStatus : List Event := transaction [Config.opSetReadPtr, Config.selStatus] ++ [.tick, .rdReq]

/-- The pseudo-command PURE_READ: `R` (R64, R115). -/
def pseudoPureRead : List Event := [.rdReq]

/-- The pseudo-command RESET_AND_CHECK: `W[F0]; R; R` (R64). -/
def pseudoResetAndCheck : List Event := transaction [Config.opReset] ++ [.rdReq, .rdReq]

/-- The pseudo-command NOP_CLEAR: `W[]` (R59, R64). -/
def pseudoNopClear : List Event := transaction []

/-! ### A command placed where the next step fetches it -/

/-- The two bytes of a command stand complete in the buffer and a `Tick` comes next (log 11). -/
def placeCommand (b0 b1 : Byte) (s : State) : State :=
  { s with
    buf := (s.buf.write 0 b0).write 1 b1
    fill := 2
    rdCur := 0
    rxSkip := false
    disp := .idle
    pending := .tick :: s.pending }

end Sys2Proof.Machine
end

