-- ==== Sys2Proof/Machine/Step.lean ====
section
/-! DEFINITION. One step of the block: one event (spec R5, R36). -/

namespace Sys2Proof.Machine

/-- One step: the oldest pending event, whole (R36). -/
def step (s : State) : Host.Outcome State Fault Refusal := takeEvent s

/-- `s` with the instruction of the opcode table whose bits are `w` where the next step fetches and runs it: its bytes in the
Command Buffer and a `Tick` next (log 11). -/
def State.withFetchWord (s : State) (nbits w : Nat) : State :=
  placeCommand (tableBytes nbits w).1 (tableBytes nbits w).2 s

end Sys2Proof.Machine
end

