-- ==== Sys2Proof/Safety.lean ====
section
/-! DEFINITION. The words the statements are made of: the invariant of every reachable state (spec R17, R21, 95_test_vectors.md
part 5), reachability, and executions as folds of events (R38). -/

namespace Sys2Proof.Machine

/-- What holds in every state reachable from `PowerOn`. -/
structure State.Inv (s : State) : Prop where
  /-- The buffer is in its canonical form. -/
  bufWf : s.buf.wf
  /-- "Slot 15 is never written" (R11, R31). -/
  slot15Free : s.buf.read? Config.fillMax = none
  /-- Every valid slot has been stored to (R11). -/
  validStored : ∀ i : SlotIndex, i.val < s.fill.val → (s.buf.read? i.val).isSome
  /-- `status` is 0x08 or 0x18 (R17). -/
  statusValue : s.status = Config.statusIdle ∨ s.status = Config.statusReset
  /-- A non-empty buffer is not being skipped (R21). -/
  fillNoSkip : s.fill ≠ 0 → s.rxSkip = false
  /-- A 0xF0 at index 0 has been consumed in the event that stored it (R21). -/
  fillNotReset : s.fill ≠ 0 → s.buf.read? 0 ≠ some Config.opReset
  /-- With `disp = Idle` the cursor is 0 (R21). -/
  idleCursor : s.disp = .idle → s.rdCur = 0
  /-- While a parameter is awaited: the cursor is 1 and slot 0 holds the opcode of the command (R21). -/
  awaitCursor : ∀ c, s.disp = .awaitParam c → s.fill ≠ 0 ∧ s.rdCur = 1 ∧ s.buf.read? 0 = some c.opcode

/-- The states an execution can be in: it starts with the block just powered on, whatever the environment will do (R38, R140). -/
inductive Reachable : State → Prop where
  | start (es : List Event) : Reachable (State.reset.withPending es)
  | next {s t : State} : Reachable s → step s = .next t → Reachable t

/-- The fold of the event functions over a sequence of events (R38), stopping at the first that does not answer a next state. -/
def deliverAll : List Event → State → Host.Outcome State Fault Refusal
  | [], s => .next s
  | e :: es, s =>
    match deliver e s with
    | .next t => deliverAll es t
    | .fault f => .fault f
    | .refused r => .refused r

/-- The bytes that the `RxByte` events of a sequence deliver, in order. -/
def bytesOf : List Event → List Byte
  | [] => []
  | .rxByte b :: es => b :: bytesOf es
  | .powerOn :: es => bytesOf es
  | .rxStart :: es => bytesOf es
  | .rdReq :: es => bytesOf es
  | .tick :: es => bytesOf es

/-- The events that may fall inside one transaction in R106: its bytes, and `Tick`s anywhere between them. -/
def Event.isByteOrTick : Event → Bool
  | .rxByte _ => true
  | .tick => true
  | .powerOn => false
  | .rxStart => false
  | .rdReq => false

end Sys2Proof.Machine
end

