-- ==== Sys2Proof/Certificates/Slice0/Obligations.lean ====
section
/-! DEFINITION. The statements for the provers. Each says in its docstring which part of spec/ it formalises. "D<n>" is a decision of
92_eei_decisions.md, which the spec marks as its own choice; "log <n>" is notes/assumptions/<n>.md. -/

open Sys2Proof Sys2Proof.Machine

/-! ### The commands: what each does, from every state -/

/-- RESET assigns 0x18 to `status`, emits its record and consumes the buffer; nothing else changes: pointer, channel and every
slot stay (42_dispatcher_commands.md section 2, the RESET rule, which rests on the spec's decisions D7 to D9; `rx_skip` is D6). -/
def Obligations.ResetCompletes : Prop :=
  ∀ s : State, exec .reset s = .next
    { s with
      status := 0x18#8, fill := 0, rdCur := 0, rxSkip := true, disp := .idle
      diag := s.diag ++ [.cmdReset] }

/-- SET_READ_PTR writes its parameter, whatever its value, into `read_pointer`, emits its record and consumes the buffer; nothing
else changes (42_dispatcher_commands.md section 2, the SET_READ_PTR rule; `rx_skip` is D6). -/
def Obligations.SetReadPtrCompletes : Prop :=
  ∀ (s : State) (p : Byte), exec (.setReadPtr p) s = .next
    { s with
      readPointer := p, fill := 0, rdCur := 0, rxSkip := true, disp := .idle
      diag := s.diag ++ [.cmdSetReadPtr p] }

/-- CHANNEL_SELECT writes its parameter, whatever its value, into `selected_channel`, emits its record and consumes the buffer;
nothing else changes (42_dispatcher_commands.md section 2, the CHANNEL_SELECT rule; `rx_skip` is D6). -/
def Obligations.ChannelSelectCompletes : Prop :=
  ∀ (s : State) (p : Byte), exec (.channelSelect p) s = .next
    { s with
      selectedChannel := p, fill := 0, rdCur := 0, rxSkip := true, disp := .idle
      diag := s.diag ++ [.cmdChannelSelect p] }

/-- UNKNOWN and the six opcodes listed by value emit `DiagUnknown` of byte 0 and consume the buffer; no register changes
(42_dispatcher_commands.md section 2, the seven unknown rules; that the six take no parameter is D20, `rx_skip` is D6). -/
def Obligations.UnknownCommandsComplete : Prop :=
  ∀ (s : State) (i : Instr) (c : Byte),
    (i, c) ∈ [(Instr.unkD2, 0xD2#8), (.unkB4, 0xB4#8), (.unk87, 0x87#8), (.unkA5, 0xA5#8), (.unk96, 0x96#8),
      (.unk78, 0x78#8), (.unknown c, c)] →
    exec i s = .next
      { s with
        fill := 0, rdCur := 0, rxSkip := true, disp := .idle
        diag := s.diag ++ [.unknown c] }

/-- The frame of every command, said of all of them at once: only SET_READ_PTR changes `read_pointer`, only CHANNEL_SELECT changes
`selected_channel`, only RESET changes `status`; no command stores to the buffer, takes a draw, returns a byte or touches the
events still to come, and each emits exactly one record (42_dispatcher_commands.md section 2; RESET's frame is D9). -/
def Obligations.CommandsFrame : Prop :=
  ∀ (i : Instr) (s t : State), exec i s = .next t →
    (t.readPointer = s.readPointer ∨ ∃ p, i = .setReadPtr p) ∧
    (t.selectedChannel = s.selectedChannel ∨ ∃ p, i = .channelSelect p) ∧
    (t.status = s.status ∨ i = .reset) ∧
    (∀ a : SlotIndex, t.slotByte a = s.slotByte a) ∧
    t.pending = s.pending ∧ t.draws = s.draws ∧ t.returned = s.returned ∧
    ∃ r, t.diag = s.diag ++ [r]

/-! ### A step -/

/-- A step delivers the oldest pending event to the block, and with none pending leaves the block as it is. The queue of events is
the model's (logs 1, 2). -/
def Obligations.StepDeliversOldestEvent : Prop :=
  ∀ s : State,
    (∀ e es, s.pending = e :: es → step s = deliver e { s with pending := es }) ∧
    (s.pending = [] → step s = .next s)

/-- A `Tick` runs the command that the buffer's valid bytes decode to, and that command is well formed. -/
def Obligations.TickRunsDecodedCommand : Prop :=
  ∀ (s : State) (es : List Event) (i : Instr) (trailing : List Byte),
    s.pending = .tick :: es → decode s.fetchWindow = .ok (i, trailing) →
    step s = exec i { s with pending := es } ∧ i.WellFormed

/-- A `Tick` by byte 0 and fill length: the pseudocode of `Tick` (42_dispatcher_commands.md section 1, which rests on the spec's
decisions D3 and D18). `await(c)` changes `disp` and `rd_cur` alone. -/
def Obligations.TickByByteZero : Prop :=
  ∀ (s : State) (es : List Event), s.pending = .tick :: es →
    step s =
      (if s.fill.val = 0 then .next { s with pending := es }
      else if s.slotByte 0 = 0xF0#8 then exec .reset { s with pending := es }
      else if s.slotByte 0 = 0xE1#8 then
        if 2 ≤ s.fill.val then exec (.setReadPtr (s.slotByte 1)) { s with pending := es }
        else .next { s with pending := es, disp := .awaitParam .setReadPtr, rdCur := 1 }
      else if s.slotByte 0 = 0xC3#8 then
        if 2 ≤ s.fill.val then exec (.channelSelect (s.slotByte 1)) { s with pending := es }
        else .next { s with pending := es, disp := .awaitParam .channelSelect, rdCur := 1 }
      else exec (unknownInstr (s.slotByte 0)) { s with pending := es })

/-- R53: the parameter is the byte at index 1 as it stands, all 256 values; it goes whole into `read_pointer` or
`selected_channel`. -/
def Obligations.ParameterIsTakenWhole : Prop :=
  ∀ (s : State) (es : List Event), s.pending = .tick :: es → 2 ≤ s.fill.val →
    (s.slotByte 0 = 0xE1#8 → ∃ t, step s = .next t ∧ t.readPointer = s.slotByte 1) ∧
    (s.slotByte 0 = 0xC3#8 → ∃ t, step s = .next t ∧ t.selectedChannel = s.slotByte 1)

/-- No encoding traps, and an unknown command clears the buffer, sets `rx_skip` (the spec's decision D6), sets `disp` to `Idle`, emits
one record and leaves the three registers as they were (30_encoding.md section 3, illegal encodings). -/
def Obligations.UnknownByteZeroOnlyConsumes : Prop :=
  (∀ (i : Instr) (s : State), ∃ t, exec i s = .next t) ∧
  ∀ (s : State) (es : List Event), s.pending = .tick :: es → 1 ≤ s.fill.val →
    s.slotByte 0 ≠ 0xF0#8 → s.slotByte 0 ≠ 0xE1#8 → s.slotByte 0 ≠ 0xC3#8 →
    ∃ t, step s = .next t ∧ t.fill = 0 ∧ t.rxSkip = true ∧ t.disp = .idle ∧ t.diag = s.diag ++ [.unknown (s.slotByte 0)] ∧
      t.status = s.status ∧ t.selectedChannel = s.selectedChannel ∧ t.readPointer = s.readPointer

/-! ### Encoding -/

/-- A few commands written out from the spec's encoding table (R54) decode to the command they stand for. -/
def Obligations.WrittenOutBytesDecode : Prop :=
  decode [0xF0#8] = .ok (.reset, []) ∧ decode [0xE1#8, 0xF0#8] = .ok (.setReadPtr 0xF0#8, []) ∧
  decode [0xC3#8, 0x02#8, 0xE1#8] = .ok (.channelSelect 0x02#8, [0xE1#8]) ∧ decode [0x78#8] = .ok (.unk78, []) ∧
  decode [0x99#8] = .ok (.unknown 0x99#8, []) ∧ decode [0xC3#8] = .error (.parameterMissing .channelSelect)

/-- Decoding inverts encoding: every well-formed command, with every parameter value and any trailing bytes, is read back whole
(30_encoding.md sections 1 to 3). -/
def Obligations.DecodeInvertsEncode : Prop :=
  ∀ (i : Instr) (trailing : List Byte), i.WellFormed → decode (encode i ++ trailing) = .ok (i, trailing)

/-- R50: byte 0 alone selects the command and its length, 2 bytes for 0xE1 and 0xC3 and 1 byte otherwise; what is decoded is a
well-formed command whose bytes stand at the front, and only 0xE1 or 0xC3 alone is incomplete. -/
def Obligations.ByteZeroSelectsFormat : Prop :=
  ∀ (c : Byte) (bytes : List Byte),
    (∀ i trailing, decode (c :: bytes) = .ok (i, trailing) →
      i.WellFormed ∧ i.opcode = c ∧ c :: bytes = encode i ++ trailing ∧
      (encode i).length = if c = 0xE1#8 ∨ c = 0xC3#8 then 2 else 1) ∧
    ((c = 0xE1#8 ∨ c = 0xC3#8) → (decode (c :: bytes)).isOk = !bytes.isEmpty) ∧
    (¬ (c = 0xE1#8 ∨ c = 0xC3#8) → (decode (c :: bytes)).isOk = true)

/-! ### The inbound events -/

/-- `RxStart` empties the buffer without erasing a slot, and abandons a wait; no register, output or draw changes
(40_buffer_ops.md section 2; that the wait is abandoned is D5, `rx_skip` is D6). -/
def Obligations.RxStartEmptiesAndRearms : Prop :=
  ∀ (s : State) (es : List Event), s.pending = .rxStart :: es →
    step s = .next { s with pending := es, fill := 0, rdCur := 0, rxSkip := false, disp := .idle }

/-- `RxByte(b)`, case by case: skipped; dropped for want of room; stored at index 0 as 0xF0 and RESET executed at once; stored at
index `fill`. In each case every register, counter, output and slot not named is unchanged (40_buffer_ops.md sections 1 and 2, which
rest on D6, D7, D13 and D22). -/
def Obligations.RxByteByCase : Prop :=
  ∀ (s : State) (es : List Event) (b : Byte), s.pending = .rxByte b :: es →
    ∃ t, step s = .next t ∧ t.pending = es ∧
      t.selectedChannel = s.selectedChannel ∧ t.readPointer = s.readPointer ∧ t.draws = s.draws ∧ t.returned = s.returned ∧
      if s.rxSkip = true then
        t = { s with pending := es, diag := s.diag ++ [.rx b] }
      else if s.fill.val = 15 then
        t = { s with pending := es, diag := s.diag ++ [.rx b, .overflow b] }
      else
        t.slotByte s.fill = b ∧ (∀ a : SlotIndex, a ≠ s.fill → t.slotByte a = s.slotByte a) ∧
        if s.fill.val = 0 ∧ b = 0xF0#8 then
          t.fill.val = 0 ∧ t.rdCur = 0 ∧ t.rxSkip = true ∧ t.disp = .idle ∧ t.status = 0x18#8 ∧
          t.diag = s.diag ++ [.rx b, .cmdReset]
        else
          t.fill.val = s.fill.val + 1 ∧ t.rdCur = s.rdCur ∧ t.rxSkip = false ∧ t.disp = s.disp ∧ t.status = s.status ∧
          t.diag = s.diag ++ [.rx b]

/-- `fill` is at most 15; it is set to 0 by `RxStart`, by `PowerOn` and by consuming a command, raised by 1 by an `RxByte` that
stores its byte, and written by nothing else; at 15 an arriving byte is dropped, so it never wraps (10_state.md section 2; that 15 is
full is the spec's decision D13). A `Tick` leaves 1 where it waits for a parameter and else 0 (42_dispatcher_commands.md sections 1
and 3, on D3); the arm that stores 0xF0 at index 0 executes RESET at once (40_buffer_ops.md section 2, on D7). -/
def Obligations.FillCountsStoredBytes : Prop :=
  ∀ (s t : State) (e : Event), deliver e s = .next t →
    t.fill.val ≤ 15 ∧
    (e = .rxStart ∨ e = .powerOn → t.fill.val = 0) ∧
    (e = .rdReq → t.fill = s.fill) ∧
    (e = .tick → t.fill.val = if s.fill.val = 1 ∧ (s.slotByte 0 = 0xE1#8 ∨ s.slotByte 0 = 0xC3#8) then 1 else 0) ∧
    (∀ b, e = .rxByte b →
      (s.fill.val = 15 → t.fill = s.fill ∧ ∀ a : SlotIndex, t.slotByte a = s.slotByte a) ∧
      ((t.fill = s.fill ∧ ∀ a : SlotIndex, t.slotByte a = s.slotByte a) ∨
       (t.fill.val = s.fill.val + 1 ∧ t.slotByte s.fill = b) ∨
       (t.fill.val = 0 ∧ s.fill.val = 0 ∧ b = 0xF0#8 ∧ t.status = 0x18#8)))

/-- The buffer's only write is `buf[fill] <- b` by an `RxByte` with room, so slot 15 is never written; every other event leaves every
slot alone (20_memory.md section 1). `PowerOn`, after which the content is unspecified, is the one exception. -/
def Obligations.BufferWrittenOnlyAtFill : Prop :=
  ∀ (s t : State) (e : Event), deliver e s = .next t → e ≠ .powerOn →
    ∀ a : SlotIndex, t.slotByte a = s.slotByte a ∨
      ∃ b, e = .rxByte b ∧ s.rxSkip = false ∧ a = s.fill ∧ a.val < 15 ∧ t.slotByte a = b

/-! ### The read responder -/

/-- R111: a read through 0xF0 returns `status` as it was before, once, and sets it to 0x08; nothing else changes. -/
def Obligations.StatusReadReturnsAndClears : Prop :=
  ∀ (s : State) (es : List Event), s.pending = .rdReq :: es → s.readPointer = 0xF0#8 →
    step s = .next
      { s with
        pending := es, status := 0x08#8, returned := s.returned ++ [s.status]
        diag := s.diag ++ [.statusRead s.status] }

/-- A read through any other pointer returns one byte of which nothing is known, takes a fresh draw and changes no state of the
block; `status` is not cleared (43_read_responder.md, the rule for other pointers, the spec's decision D16; the counter of draws is
the model's, log 4). -/
def Obligations.UnsupportedReadChangesNothing : Prop :=
  ∀ (s : State) (es : List Event), s.pending = .rdReq :: es → s.readPointer ≠ 0xF0#8 →
    ∃ b : Byte, step s = .next
      { s with
        pending := es, draws := s.draws + 1, returned := s.returned ++ [b]
        diag := s.diag ++ [.unsupportedRead s.readPointer] }

/-- R62: each `RdReq` is answered with exactly one byte; through 0xF0 it is `status`, which in every state that meets the invariant is
0x08 or 0x18. -/
def Obligations.EveryReadAnswersOneByte : Prop :=
  ∀ (s : State) (es : List Event), s.Inv → s.pending = .rdReq :: es →
    ∃ (t : State) (b : Byte), step s = .next t ∧ t.returned = s.returned ++ [b] ∧
      (s.readPointer = 0xF0#8 → b = s.status ∧ (b = 0x08#8 ∨ b = 0x18#8))

/-- Reading again: the first of several reads through 0xF0 returns `status` and each further one 0x08; reads through another
pointer leave `status` as it was (43_read_responder.md, several bytes in one read, D17; 70_reset_and_hazards.md section 3). -/
def Obligations.RepeatedReads : Prop :=
  ∀ (s : State) (n : Nat) (es : List Event), s.pending = List.replicate (n + 1) Event.rdReq ++ es →
    ∃ t, Sys2Proof.core.run (n + 1) s = .next t ∧ t.pending = es ∧ t.readPointer = s.readPointer ∧
      (s.readPointer = 0xF0#8 → t.status = 0x08#8 ∧ t.returned = s.returned ++ s.status :: List.replicate n 0x08#8) ∧
      (s.readPointer ≠ 0xF0#8 → t.status = s.status ∧ t.returned.length = s.returned.length + (n + 1))

/-! ### The contract operations -/

/-- `reset()` clears the fill length and nothing else (that it keeps the slots is log 7); `first_command_byte()` is the byte at index 0
when `fill ≥ 1`; `has_parameter_at(index)` is `fill > index`, so at 0 it says non-empty and at 15 it is false (40_buffer_ops.md
section 1). The spec gives `first_command_byte()` no value when `fill = 0`; that it answers `none` there is the model's choice, log
12. -/
def Obligations.BufferContractOperations : Prop :=
  ∀ s : State,
    (s.clearFill = { s with fill := 0 } ∧ ∀ a : SlotIndex, s.clearFill.slotByte a = s.slotByte a) ∧
    (1 ≤ s.fill.val → s.firstCommandByte? = some (s.slotByte 0)) ∧ (s.fill.val = 0 → s.firstCommandByte? = none) ∧
    (∀ a : SlotIndex, s.hasParameterAt a = true ↔ a.val < s.fill.val) ∧ s.hasParameterAt 15 = false

/-- `append(b)`: at `fill = 15` it fails and changes nothing; below it stores at index `fill`, raises `fill` by 1 and succeeds
(40_buffer_ops.md section 1; that 15 is full is the spec's decision D13). -/
def Obligations.AppendStoresOrDrops : Prop :=
  ∀ (s : State) (b : Byte),
    (s.fill.val = 15 → s.append b = (false, s)) ∧
    (s.fill.val < 15 → (s.append b).1 = true ∧ (s.append b).2.fill.val = s.fill.val + 1 ∧
      (s.append b).2.slotByte s.fill = b ∧
      (∀ a : SlotIndex, a ≠ s.fill → (s.append b).2.slotByte a = s.slotByte a) ∧
      (s.append b).2 = { s with buf := (s.append b).2.buf, fill := (s.append b).2.fill })

/-- R80, R82: `read_status()` returns `status` and sets it to the idle baseline in one step; `set_channel(c)` stores any byte. With
them `set_read_pointer`, `get_channel` and `get_read_pointer` (41_register_ops.md). -/
def Obligations.RegisterFileOperations : Prop :=
  ∀ (s : State) (v : Byte),
    s.readStatus = (s.status, { s with status := 0x08#8 }) ∧
    s.setChannel v = { s with selectedChannel := v } ∧ s.setReadPointer v = { s with readPointer := v } ∧
    (s.setChannel v).getChannel = v ∧ (s.setReadPointer v).getReadPointer = v

/-- `write_status_flags(mask)` ORs: every bit of the mask is set, no bit is cleared, no other state changes, and doing it twice is
doing it once (41_register_ops.md; the operation has no caller, D19). -/
def Obligations.WriteStatusFlagsOnlySets : Prop :=
  ∀ (s : State) (mask : Byte),
    (∀ i : Nat, (s.writeStatusFlags mask).status.getLsbD i = (s.status.getLsbD i || mask.getLsbD i)) ∧
    s.writeStatusFlags mask = { s with status := (s.writeStatusFlags mask).status } ∧
    (s.writeStatusFlags mask).writeStatusFlags mask = s.writeStatusFlags mask

/-! ### Power-on and the invariant -/

/-- The state right after reset: `status` at its idle value (10_state.md section 6); the other values are the spec's decisions
(D6, D10, D11, D12, D15) and the empty inputs and outputs the model's (logs 1, 4, 8). -/
def Obligations.ResetValues : Prop :=
  State.reset.status = 0x08#8 ∧ State.reset.fill = 0 ∧ State.reset.rdCur = 0 ∧ State.reset.rxSkip = false ∧
  State.reset.disp = .idle ∧ State.reset.readPointer = 0xF0#8 ∧ State.reset.selectedChannel = Config.chReset ∧
  State.reset.buf = [] ∧ State.reset.pending = [] ∧ State.reset.returned = [] ∧ State.reset.diag = []

/-- `PowerOn` from every state gives the values after reset and keeps what is outside the block: the events still to come, the draws
taken, and the outputs given (70_reset_and_hazards.md section 1, on D10 to D12 and D24; log 8). -/
def Obligations.PowerOnRestoresResetValues : Prop :=
  ∀ (s : State) (es : List Event), s.pending = .powerOn :: es →
    step s = .next { State.reset with pending := es, draws := s.draws, returned := s.returned, diag := s.diag }

/-- The state right after reset meets the invariant. -/
def Obligations.ResetMeetsInvariant : Prop := State.reset.Inv

/-- Every step keeps the invariant: canonical buffer, slot 15 unwritten, valid slots written, `status` 0x08 or 0x18, and the relations
between `fill`, `rx_skip`, `rd_cur`, `disp` and slot 0 (10_state.md sections 1 to 4; 95_test_vectors.md part 5). -/
def Obligations.StepKeepsInvariant : Prop :=
  ∀ s t : State, s.Inv → step s = .next t → t.Inv

/-- `PowerOn` establishes the invariant from every state, whatever it was. -/
def Obligations.PowerOnEstablishesInvariant : Prop :=
  ∀ (s : State) (es : List Event), s.pending = .powerOn :: es → ∃ t, step s = .next t ∧ t.Inv ∧ t.pending = es

/-- In every state reachable from power-on, under every schedule of events, LL reads 1 and DIR, TSB, SBR, SD, PPD and 1WB read 0;
`status` is 0x08 or 0x18 (10_state.md section 3, a derived rule of the spec, D19). -/
def Obligations.ReachableStatusBits : Prop :=
  ∀ s : State, Reachable s →
    (s.status = 0x08#8 ∨ s.status = 0x18#8) ∧ s.statusHas maskLL = true ∧ s.statusHas maskDIR = false ∧
    s.statusHas maskTSB = false ∧ s.statusHas maskSBR = false ∧ s.statusHas maskSD = false ∧
    s.statusHas maskPPD = false ∧ s.statusHas mask1WB = false

/-! ### Rules of the whole machine -/

/-- Nothing stops the block: from every state a step answers a next state, and every event can be delivered
(60_exceptions.md section 1; 70_reset_and_hazards.md section 5). -/
def Obligations.EveryStepAnswersNext : Prop :=
  (∀ s : State, ∃ t, step s = .next t) ∧ ∀ (s : State) (e : Event), ∃ t, deliver e s = .next t

/-- `selected_channel` changes only in a `Tick` that executes CHANNEL_SELECT, to its parameter, and at power-on
(10_state.md section 3; 95_test_vectors.md part 5). -/
def Obligations.ChannelWrittenOnlyByChannelSelect : Prop :=
  ∀ s t : State, step s = .next t → t.selectedChannel ≠ s.selectedChannel →
    (∃ es, s.pending = .powerOn :: es) ∨
    ((∃ es, s.pending = .tick :: es) ∧ 2 ≤ s.fill.val ∧ s.slotByte 0 = 0xC3#8 ∧ t.selectedChannel = s.slotByte 1)

/-- `read_pointer` changes only in a `Tick` that executes SET_READ_PTR, to its parameter, and at power-on, to 0xF0, which is the
spec's decision D10 (10_state.md section 3; 95_test_vectors.md part 5; log 9). -/
def Obligations.PointerWrittenOnlyBySetReadPtr : Prop :=
  ∀ s t : State, step s = .next t → t.readPointer ≠ s.readPointer →
    ((∃ es, s.pending = .powerOn :: es) ∧ t.readPointer = 0xF0#8) ∨
    ((∃ es, s.pending = .tick :: es) ∧ 2 ≤ s.fill.val ∧ s.slotByte 0 = 0xE1#8 ∧ t.readPointer = s.slotByte 1)

/-- `status` changes only at power-on and in a read through 0xF0, both to 0x08, and in the `RxByte` that stores 0xF0 at index 0, to
0x18; the `Tick` arm for RESET is never reached under the invariant (10_state.md sections 3 and 4; 95_test_vectors.md part 5). -/
def Obligations.StatusWrittenOnlyByResetAndRead : Prop :=
  ∀ s t : State, s.Inv → step s = .next t → t.status ≠ s.status →
    ((∃ es, s.pending = .powerOn :: es) ∧ t.status = 0x08#8) ∨
    ((∃ es, s.pending = .rdReq :: es) ∧ s.readPointer = 0xF0#8 ∧ t.status = 0x08#8) ∨
    ((∃ es, s.pending = .rxByte 0xF0#8 :: es) ∧ s.rxSkip = false ∧ s.fill.val = 0 ∧ t.status = 0x18#8)

/-- The three logged conditions, each exactly when the table of 60_exceptions.md section 1 says: overflow, unknown command,
unsupported register. Records are only ever added at the end (60_exceptions.md sections 1 and 5, D21). -/
def Obligations.ConditionsAreRecordedExactly : Prop :=
  ∀ (s t : State) (e : Event), deliver e s = .next t →
    ∃ new : List Diag, t.diag = s.diag ++ new ∧
      (∀ b, .overflow b ∈ new ↔ e = .rxByte b ∧ s.rxSkip = false ∧ s.fill.val = 15) ∧
      (∀ c, .unknown c ∈ new ↔ e = .tick ∧ 1 ≤ s.fill.val ∧ s.slotByte 0 = c ∧ c ≠ 0xF0#8 ∧ c ≠ 0xE1#8 ∧ c ≠ 0xC3#8) ∧
      (∀ p, .unsupportedRead p ∈ new ↔ e = .rdReq ∧ s.readPointer = p ∧ p ≠ 0xF0#8)

/-- The Dispatcher's state after every event: the transition table of 42_dispatcher_commands.md section 1. -/
def Obligations.DispatcherTransitions : Prop :=
  ∀ (s t : State) (e : Event), deliver e s = .next t →
    (e = .powerOn ∨ e = .rxStart → t.disp = .idle) ∧
    (e = .rdReq → t.disp = s.disp) ∧
    (∀ b, e = .rxByte b →
      t.disp = if s.rxSkip = false ∧ s.fill.val = 0 ∧ b = 0xF0#8 then .idle else s.disp) ∧
    (e = .tick → t.disp =
      if s.fill.val = 0 then s.disp
      else if s.fill.val = 1 ∧ s.slotByte 0 = 0xE1#8 then .awaitParam .setReadPtr
      else if s.fill.val = 1 ∧ s.slotByte 0 = 0xC3#8 then .awaitParam .channelSelect
      else .idle)

/-- The end-of-tick law: after a `Tick` exactly one holds, an empty buffer with `Idle`, or one byte, the opcode of the awaited command,
with `AwaitParam` and the cursor at 1 (42_dispatcher_commands.md section 3, a derived rule of the spec). -/
def Obligations.EndOfTickLaw : Prop :=
  ∀ s t : State, s.Inv → tick s = .next t →
    (t.fill.val = 0 ∧ t.disp = .idle) ∨
    (t.fill.val = 1 ∧ ∃ c : ParamCommand, t.disp = .awaitParam c ∧ t.rdCur = 1 ∧ t.slotByte 0 = c.opcode)

/-- Two `Tick`s in a row equal one, and a `Tick` on an empty buffer changes nothing (42_dispatcher_commands.md section 3, D18). -/
def Obligations.SecondTickChangesNothing : Prop :=
  ∀ s t : State, tick s = .next t → tick t = .next t ∧ (s.fill.val = 0 → t = s)

/-! ### Executions -/

/-- A run over the pending events is the fold of the event functions over them (20_memory.md section 3, D2). -/
def Obligations.RunIsFoldOfEvents : Prop :=
  ∀ (events later : List Event) (s t : State), s.pending = events ++ later →
    (Sys2Proof.core.run events.length s = .next t ↔ deliverAll events { s with pending := later } = .next t)

/-- The net effect of an undisturbed transaction `W[bytes]` from every state: RESET at once when byte 0 is 0xF0, else the first 15
bytes in the buffer and one `DiagOverflow` for each further byte; pointer and channel unchanged (40_buffer_ops.md section 2, derived
rules of the spec). -/
def Obligations.TransactionNetEffect : Prop :=
  ∀ (s : State) (bytes : List Byte) (later : List Event), s.pending = transaction bytes ++ later →
    ∃ t, Sys2Proof.core.run (bytes.length + 1) s = .next t ∧ t.pending = later ∧ t.rdCur = 0 ∧ t.disp = .idle ∧
      t.selectedChannel = s.selectedChannel ∧ t.readPointer = s.readPointer ∧ t.returned = s.returned ∧ t.draws = s.draws ∧
      if bytes.head? = some 0xF0#8 then
        t.status = 0x18#8 ∧ t.fill.val = 0 ∧ t.rxSkip = true ∧ (∀ a : SlotIndex, a.val ≠ 0 → t.slotByte a = s.slotByte a) ∧
        t.diag = s.diag ++ .rx 0xF0#8 :: .cmdReset :: bytes.tail.map .rx
      else
        t.status = s.status ∧ t.fill.val = min bytes.length 15 ∧ t.rxSkip = false ∧
        (∀ a : SlotIndex, a.val < t.fill.val → bytes[a.val]? = some (t.slotByte a)) ∧
        (∀ a : SlotIndex, t.fill.val ≤ a.val → t.slotByte a = s.slotByte a) ∧
        t.diag = s.diag ++ (bytes.take 15).map .rx ++ (bytes.drop 15).flatMap (fun b => [.rx b, .overflow b])

/-- One command per transaction, decided by byte 0, wherever `Tick`s fall: a transaction's bytes with `Tick`s anywhere between and
after them, at least one of them after the command is complete. Then the registers are as the one command says, no later byte has
an effect, and a lone 0xE1 or 0xC3 or no byte at all changes no register (42_dispatcher_commands.md section 3, a derived rule of the
spec, on D6). -/
def Obligations.OneCommandPerTransaction : Prop :=
  ∀ (s : State) (before after later : List Event), (∀ e ∈ before ++ after, e.isByteOrTick = true) →
    s.pending = .rxStart :: (before ++ .tick :: after ++ later) →
    ∃ t, Sys2Proof.core.run (before.length + after.length + 2) s = .next t ∧ t.pending = later ∧
      (∀ b0 bs, bytesOf before = b0 :: bs →
        (b0 = 0xF0#8 → t.status = 0x18#8 ∧ t.readPointer = s.readPointer ∧ t.selectedChannel = s.selectedChannel) ∧
        (∀ p ps, b0 = 0xE1#8 → bs = p :: ps →
          t.readPointer = p ∧ t.status = s.status ∧ t.selectedChannel = s.selectedChannel) ∧
        (∀ p ps, b0 = 0xC3#8 → bs = p :: ps →
          t.selectedChannel = p ∧ t.status = s.status ∧ t.readPointer = s.readPointer) ∧
        (b0 ≠ 0xF0#8 → b0 ≠ 0xE1#8 → b0 ≠ 0xC3#8 →
          t.status = s.status ∧ t.readPointer = s.readPointer ∧ t.selectedChannel = s.selectedChannel ∧
          t.fill.val = 0 ∧ t.disp = .idle ∧ t.diag.count (.unknown b0) = s.diag.count (.unknown b0) + 1)) ∧
      ((bytesOf (before ++ after) = [0xE1#8] ∨ bytesOf (before ++ after) = [0xC3#8] ∨ bytesOf (before ++ after) = []) →
        t.status = s.status ∧ t.readPointer = s.readPointer ∧ t.selectedChannel = s.selectedChannel)

/-- RESET with any trailing bytes and then two reads through 0xF0 return 0x18 and 0x08, whatever state the block was in
(95_test_vectors.md part 1, the read-and-clear law; 70_reset_and_hazards.md section 5). -/
def Obligations.ResetThenTwoReads : Prop :=
  ∀ (s : State) (trailing : List Byte) (later : List Event), s.readPointer = 0xF0#8 →
    s.pending = transaction (0xF0#8 :: trailing) ++ .rdReq :: .rdReq :: later →
    ∃ t, Sys2Proof.core.run (trailing.length + 4) s = .next t ∧ t.pending = later ∧
      t.returned = s.returned ++ [0x18#8, 0x08#8] ∧ t.status = 0x08#8 ∧ t.fill.val = 0 ∧ t.disp = .idle

/-- READ_STATUS and one more read, from every state: the first byte is the current status, the second the idle baseline
(30_encoding.md section 5; 43_read_responder.md, the pure read; 95_test_vectors.md part 1). -/
def Obligations.ReadStatusPseudoCommand : Prop :=
  ∀ (s : State) (later : List Event), s.pending = pseudoReadStatus ++ .rdReq :: later →
    ∃ t, Sys2Proof.core.run 6 s = .next t ∧ t.pending = later ∧ t.returned = s.returned ++ [s.status, 0x08#8] ∧
      t.status = 0x08#8 ∧ t.readPointer = 0xF0#8 ∧ t.selectedChannel = s.selectedChannel

/-- The lost command: two transactions with no `Tick` between them execute the second command only, and nothing records the loss
(70_reset_and_hazards.md section 3; 20_memory.md section 3). -/
def Obligations.UndispatchedCommandIsLost : Prop :=
  ∀ (s : State) (ch p : Byte) (later : List Event),
    s.pending = transaction [0xC3#8, ch] ++ transaction [0xE1#8, p] ++ .tick :: later →
    ∃ t, Sys2Proof.core.run 7 s = .next t ∧ t.pending = later ∧ t.selectedChannel = s.selectedChannel ∧ t.readPointer = p ∧
      t.status = s.status ∧
      t.diag = s.diag ++ [.rx 0xC3#8, .rx ch, .rx 0xE1#8, .rx p, .cmdSetReadPtr p]

/-- A parameter does not travel alone: after `W[E1]; T`, the transaction `W[F0]` resets the block and sets no pointer; after
`W[C3]; T`, the transaction `W[b]; T` with an unknown `b` selects nothing and reports `b` as unknown (70_reset_and_hazards.md section
3; 42_dispatcher_commands.md section 3; that `RxStart` abandons the wait is D5). -/
def Obligations.SplitParameterIsANewCommand : Prop :=
  ∀ (s : State) (b : Byte) (later : List Event),
    (s.pending = transaction [0xE1#8] ++ .tick :: (transaction [0xF0#8] ++ later) →
      ∃ t, Sys2Proof.core.run 5 s = .next t ∧ t.pending = later ∧ t.disp = .idle ∧ t.status = 0x18#8 ∧
        t.readPointer = s.readPointer ∧ t.selectedChannel = s.selectedChannel) ∧
    (b ≠ 0xF0#8 → b ≠ 0xE1#8 → b ≠ 0xC3#8 →
      s.pending = transaction [0xC3#8] ++ .tick :: (transaction [b] ++ .tick :: later) →
      ∃ t, Sys2Proof.core.run 6 s = .next t ∧ t.pending = later ∧ t.disp = .idle ∧ t.status = s.status ∧
        t.readPointer = s.readPointer ∧ t.selectedChannel = s.selectedChannel ∧
        t.diag = s.diag ++ [.rx 0xC3#8, .rx b, .unknown b])

/-! ### What cannot be seen -/

/-- The channel is invisible to the master: a run from a state with another channel differs in the channel alone, so returns the same
bytes and records (10_state.md section 3). Both runs are given the same draws. -/
def Obligations.ChannelIsInvisible : Prop :=
  ∀ (k : Nat) (s t : State) (ch : Byte), Sys2Proof.core.run k s = .next t →
    ∃ ch', Sys2Proof.core.run k { s with selectedChannel := ch } = .next { t with selectedChannel := ch' }

/-- Nothing depends on the cursor or on `disp`: a run from a state with other values there differs in them alone
(10_state.md sections 2 and 4; 42_dispatcher_commands.md section 1). Both runs are given the same draws. -/
def Obligations.CursorAndDispAreUnobservable : Prop :=
  ∀ (k : Nat) (s t : State) (cursor : SlotIndex) (d : Disp), Sys2Proof.core.run k s = .next t →
    ∃ cursor' d', Sys2Proof.core.run k { s with rdCur := cursor, disp := d } = .next { t with rdCur := cursor', disp := d' }

/-- Only slots 0 and 1 are ever read: a run from a buffer that agrees on them differs in the buffer alone, and still agrees on them
(20_memory.md section 1; 10_state.md section 2). Both runs are given the same draws. -/
def Obligations.TrailingSlotsAreNeverRead : Prop :=
  ∀ (k : Nat) (s t : State) (m : Memory), m.read? 0 = s.buf.read? 0 → m.read? 1 = s.buf.read? 1 →
    Sys2Proof.core.run k s = .next t →
    ∃ m' : Memory, Sys2Proof.core.run k { s with buf := m } = .next { t with buf := m' } ∧
      m'.read? 0 = t.buf.read? 0 ∧ m'.read? 1 = t.buf.read? 1
end

