-- ==== Sys2Proof/Laws/Decode.lean ====
section
/-! SUPPORT. The decoder's equations by byte 0, and the format of a command. -/

namespace Sys2Proof

@[simp] theorem decode_nil : decode [] = .error .emptyBuffer := rfl

@[simp] theorem decode_reset (rest : List Byte) : decode (Config.opReset :: rest) = .ok (.reset, rest) := rfl

@[simp] theorem decode_setReadPtr (rest : List Byte) :
    decode (Config.opSetReadPtr :: rest) = decodeParam .setReadPtr rest := rfl

@[simp] theorem decode_channelSelect (rest : List Byte) :
    decode (Config.opChannelSelect :: rest) = decodeParam .channelSelect rest := rfl

/-- A byte 0 that is none of the three implemented opcodes is complete by itself and unknown. -/
theorem decode_other {c : Byte} (rest : List Byte) (h0 : c ≠ Config.opReset) (h1 : c ≠ Config.opSetReadPtr)
    (h2 : c ≠ Config.opChannelSelect) : decode (c :: rest) = .ok (unknownInstr c, rest) := by
  simp [decode, h0, h1, h2]

/-- The unknown rows by their bytes: the byte of the row is the byte decoded. -/
theorem unknownInstr_opcode (c : Byte) : (unknownInstr c).opcode = c := by
  unfold unknownInstr
  repeat' split
  all_goals first | (next h => exact h.symm) | rfl

/-- The unknown rows take no parameter (R55). -/
theorem unknownInstr_params (c : Byte) : (unknownInstr c).params = [] := by
  unfold unknownInstr
  repeat' split
  all_goals rfl

end Sys2Proof
end

