-- ==== Sys2Proof/Laws/State.lean ====
section
/-! SUPPORT. What each named update of the state does to each field, so that no later proof unfolds a record update. -/

namespace Sys2Proof.Machine

/-! ### `State.clearFill` -/
@[simp] theorem State.clearFill_buf (s : State) : s.clearFill.buf = s.buf := rfl
@[simp] theorem State.clearFill_fill (s : State) : s.clearFill.fill = 0 := rfl
@[simp] theorem State.clearFill_rdCur (s : State) : s.clearFill.rdCur = s.rdCur := rfl
@[simp] theorem State.clearFill_rxSkip (s : State) : s.clearFill.rxSkip = s.rxSkip := rfl
@[simp] theorem State.clearFill_disp (s : State) : s.clearFill.disp = s.disp := rfl
@[simp] theorem State.clearFill_status (s : State) : s.clearFill.status = s.status := rfl
@[simp] theorem State.clearFill_selectedChannel (s : State) : s.clearFill.selectedChannel = s.selectedChannel := rfl
@[simp] theorem State.clearFill_readPointer (s : State) : s.clearFill.readPointer = s.readPointer := rfl
@[simp] theorem State.clearFill_pending (s : State) : s.clearFill.pending = s.pending := rfl
@[simp] theorem State.clearFill_draws (s : State) : s.clearFill.draws = s.draws := rfl
@[simp] theorem State.clearFill_returned (s : State) : s.clearFill.returned = s.returned := rfl
@[simp] theorem State.clearFill_diag (s : State) : s.clearFill.diag = s.diag := rfl

/-! ### `State.rearm` -/
@[simp] theorem State.rearm_buf (s : State) : s.rearm.buf = s.buf := rfl
@[simp] theorem State.rearm_fill (s : State) : s.rearm.fill = s.fill := rfl
@[simp] theorem State.rearm_rdCur (s : State) : s.rearm.rdCur = 0 := rfl
@[simp] theorem State.rearm_rxSkip (s : State) : s.rearm.rxSkip = false := rfl
@[simp] theorem State.rearm_disp (s : State) : s.rearm.disp = .idle := rfl
@[simp] theorem State.rearm_status (s : State) : s.rearm.status = s.status := rfl
@[simp] theorem State.rearm_selectedChannel (s : State) : s.rearm.selectedChannel = s.selectedChannel := rfl
@[simp] theorem State.rearm_readPointer (s : State) : s.rearm.readPointer = s.readPointer := rfl
@[simp] theorem State.rearm_pending (s : State) : s.rearm.pending = s.pending := rfl
@[simp] theorem State.rearm_draws (s : State) : s.rearm.draws = s.draws := rfl
@[simp] theorem State.rearm_returned (s : State) : s.rearm.returned = s.returned := rfl
@[simp] theorem State.rearm_diag (s : State) : s.rearm.diag = s.diag := rfl

/-! ### `State.consume` -/
@[simp] theorem State.consume_buf (s : State) : s.consume.buf = s.buf := rfl
@[simp] theorem State.consume_fill (s : State) : s.consume.fill = 0 := rfl
@[simp] theorem State.consume_rdCur (s : State) : s.consume.rdCur = 0 := rfl
@[simp] theorem State.consume_rxSkip (s : State) : s.consume.rxSkip = true := rfl
@[simp] theorem State.consume_disp (s : State) : s.consume.disp = .idle := rfl
@[simp] theorem State.consume_status (s : State) : s.consume.status = s.status := rfl
@[simp] theorem State.consume_selectedChannel (s : State) : s.consume.selectedChannel = s.selectedChannel := rfl
@[simp] theorem State.consume_readPointer (s : State) : s.consume.readPointer = s.readPointer := rfl
@[simp] theorem State.consume_pending (s : State) : s.consume.pending = s.pending := rfl
@[simp] theorem State.consume_draws (s : State) : s.consume.draws = s.draws := rfl
@[simp] theorem State.consume_returned (s : State) : s.consume.returned = s.returned := rfl
@[simp] theorem State.consume_diag (s : State) : s.consume.diag = s.diag := rfl

/-! ### `State.await` -/
@[simp] theorem State.await_buf (c : ParamCommand) (s : State) : (s.await c).buf = s.buf := rfl
@[simp] theorem State.await_fill (c : ParamCommand) (s : State) : (s.await c).fill = s.fill := rfl
@[simp] theorem State.await_rdCur (c : ParamCommand) (s : State) : (s.await c).rdCur = 1 := rfl
@[simp] theorem State.await_rxSkip (c : ParamCommand) (s : State) : (s.await c).rxSkip = s.rxSkip := rfl
@[simp] theorem State.await_disp (c : ParamCommand) (s : State) : (s.await c).disp = .awaitParam c := rfl
@[simp] theorem State.await_status (c : ParamCommand) (s : State) : (s.await c).status = s.status := rfl
@[simp] theorem State.await_selectedChannel (c : ParamCommand) (s : State) : (s.await c).selectedChannel = s.selectedChannel := rfl
@[simp] theorem State.await_readPointer (c : ParamCommand) (s : State) : (s.await c).readPointer = s.readPointer := rfl
@[simp] theorem State.await_pending (c : ParamCommand) (s : State) : (s.await c).pending = s.pending := rfl
@[simp] theorem State.await_draws (c : ParamCommand) (s : State) : (s.await c).draws = s.draws := rfl
@[simp] theorem State.await_returned (c : ParamCommand) (s : State) : (s.await c).returned = s.returned := rfl
@[simp] theorem State.await_diag (c : ParamCommand) (s : State) : (s.await c).diag = s.diag := rfl

/-! ### `State.store` -/
@[simp] theorem State.store_buf (b : Byte) (s : State) : (s.store b).buf = s.buf.write s.fill.val b := rfl
@[simp] theorem State.store_fill (b : Byte) (s : State) : (s.store b).fill = s.fill + 1 := rfl
@[simp] theorem State.store_rdCur (b : Byte) (s : State) : (s.store b).rdCur = s.rdCur := rfl
@[simp] theorem State.store_rxSkip (b : Byte) (s : State) : (s.store b).rxSkip = s.rxSkip := rfl
@[simp] theorem State.store_disp (b : Byte) (s : State) : (s.store b).disp = s.disp := rfl
@[simp] theorem State.store_status (b : Byte) (s : State) : (s.store b).status = s.status := rfl
@[simp] theorem State.store_selectedChannel (b : Byte) (s : State) : (s.store b).selectedChannel = s.selectedChannel := rfl
@[simp] theorem State.store_readPointer (b : Byte) (s : State) : (s.store b).readPointer = s.readPointer := rfl
@[simp] theorem State.store_pending (b : Byte) (s : State) : (s.store b).pending = s.pending := rfl
@[simp] theorem State.store_draws (b : Byte) (s : State) : (s.store b).draws = s.draws := rfl
@[simp] theorem State.store_returned (b : Byte) (s : State) : (s.store b).returned = s.returned := rfl
@[simp] theorem State.store_diag (b : Byte) (s : State) : (s.store b).diag = s.diag := rfl

/-! ### `State.withStatus` -/
@[simp] theorem State.withStatus_buf (v : Byte) (s : State) : (s.withStatus v).buf = s.buf := rfl
@[simp] theorem State.withStatus_fill (v : Byte) (s : State) : (s.withStatus v).fill = s.fill := rfl
@[simp] theorem State.withStatus_rdCur (v : Byte) (s : State) : (s.withStatus v).rdCur = s.rdCur := rfl
@[simp] theorem State.withStatus_rxSkip (v : Byte) (s : State) : (s.withStatus v).rxSkip = s.rxSkip := rfl
@[simp] theorem State.withStatus_disp (v : Byte) (s : State) : (s.withStatus v).disp = s.disp := rfl
@[simp] theorem State.withStatus_status (v : Byte) (s : State) : (s.withStatus v).status = v := rfl
@[simp] theorem State.withStatus_selectedChannel (v : Byte) (s : State) : (s.withStatus v).selectedChannel = s.selectedChannel := rfl
@[simp] theorem State.withStatus_readPointer (v : Byte) (s : State) : (s.withStatus v).readPointer = s.readPointer := rfl
@[simp] theorem State.withStatus_pending (v : Byte) (s : State) : (s.withStatus v).pending = s.pending := rfl
@[simp] theorem State.withStatus_draws (v : Byte) (s : State) : (s.withStatus v).draws = s.draws := rfl
@[simp] theorem State.withStatus_returned (v : Byte) (s : State) : (s.withStatus v).returned = s.returned := rfl
@[simp] theorem State.withStatus_diag (v : Byte) (s : State) : (s.withStatus v).diag = s.diag := rfl

/-! ### `State.setChannel` -/
@[simp] theorem State.setChannel_buf (c : Byte) (s : State) : (s.setChannel c).buf = s.buf := rfl
@[simp] theorem State.setChannel_fill (c : Byte) (s : State) : (s.setChannel c).fill = s.fill := rfl
@[simp] theorem State.setChannel_rdCur (c : Byte) (s : State) : (s.setChannel c).rdCur = s.rdCur := rfl
@[simp] theorem State.setChannel_rxSkip (c : Byte) (s : State) : (s.setChannel c).rxSkip = s.rxSkip := rfl
@[simp] theorem State.setChannel_disp (c : Byte) (s : State) : (s.setChannel c).disp = s.disp := rfl
@[simp] theorem State.setChannel_status (c : Byte) (s : State) : (s.setChannel c).status = s.status := rfl
@[simp] theorem State.setChannel_selectedChannel (c : Byte) (s : State) : (s.setChannel c).selectedChannel = c := rfl
@[simp] theorem State.setChannel_readPointer (c : Byte) (s : State) : (s.setChannel c).readPointer = s.readPointer := rfl
@[simp] theorem State.setChannel_pending (c : Byte) (s : State) : (s.setChannel c).pending = s.pending := rfl
@[simp] theorem State.setChannel_draws (c : Byte) (s : State) : (s.setChannel c).draws = s.draws := rfl
@[simp] theorem State.setChannel_returned (c : Byte) (s : State) : (s.setChannel c).returned = s.returned := rfl
@[simp] theorem State.setChannel_diag (c : Byte) (s : State) : (s.setChannel c).diag = s.diag := rfl

/-! ### `State.setReadPointer` -/
@[simp] theorem State.setReadPointer_buf (p : Byte) (s : State) : (s.setReadPointer p).buf = s.buf := rfl
@[simp] theorem State.setReadPointer_fill (p : Byte) (s : State) : (s.setReadPointer p).fill = s.fill := rfl
@[simp] theorem State.setReadPointer_rdCur (p : Byte) (s : State) : (s.setReadPointer p).rdCur = s.rdCur := rfl
@[simp] theorem State.setReadPointer_rxSkip (p : Byte) (s : State) : (s.setReadPointer p).rxSkip = s.rxSkip := rfl
@[simp] theorem State.setReadPointer_disp (p : Byte) (s : State) : (s.setReadPointer p).disp = s.disp := rfl
@[simp] theorem State.setReadPointer_status (p : Byte) (s : State) : (s.setReadPointer p).status = s.status := rfl
@[simp] theorem State.setReadPointer_selectedChannel (p : Byte) (s : State) : (s.setReadPointer p).selectedChannel = s.selectedChannel := rfl
@[simp] theorem State.setReadPointer_readPointer (p : Byte) (s : State) : (s.setReadPointer p).readPointer = p := rfl
@[simp] theorem State.setReadPointer_pending (p : Byte) (s : State) : (s.setReadPointer p).pending = s.pending := rfl
@[simp] theorem State.setReadPointer_draws (p : Byte) (s : State) : (s.setReadPointer p).draws = s.draws := rfl
@[simp] theorem State.setReadPointer_returned (p : Byte) (s : State) : (s.setReadPointer p).returned = s.returned := rfl
@[simp] theorem State.setReadPointer_diag (p : Byte) (s : State) : (s.setReadPointer p).diag = s.diag := rfl

/-! ### `State.emit` -/
@[simp] theorem State.emit_buf (r : Diag) (s : State) : (s.emit r).buf = s.buf := rfl
@[simp] theorem State.emit_fill (r : Diag) (s : State) : (s.emit r).fill = s.fill := rfl
@[simp] theorem State.emit_rdCur (r : Diag) (s : State) : (s.emit r).rdCur = s.rdCur := rfl
@[simp] theorem State.emit_rxSkip (r : Diag) (s : State) : (s.emit r).rxSkip = s.rxSkip := rfl
@[simp] theorem State.emit_disp (r : Diag) (s : State) : (s.emit r).disp = s.disp := rfl
@[simp] theorem State.emit_status (r : Diag) (s : State) : (s.emit r).status = s.status := rfl
@[simp] theorem State.emit_selectedChannel (r : Diag) (s : State) : (s.emit r).selectedChannel = s.selectedChannel := rfl
@[simp] theorem State.emit_readPointer (r : Diag) (s : State) : (s.emit r).readPointer = s.readPointer := rfl
@[simp] theorem State.emit_pending (r : Diag) (s : State) : (s.emit r).pending = s.pending := rfl
@[simp] theorem State.emit_draws (r : Diag) (s : State) : (s.emit r).draws = s.draws := rfl
@[simp] theorem State.emit_returned (r : Diag) (s : State) : (s.emit r).returned = s.returned := rfl
@[simp] theorem State.emit_diag (r : Diag) (s : State) : (s.emit r).diag = s.diag ++ [r] := rfl

/-! ### `State.answer` -/
@[simp] theorem State.answer_buf (v : Byte) (s : State) : (s.answer v).buf = s.buf := rfl
@[simp] theorem State.answer_fill (v : Byte) (s : State) : (s.answer v).fill = s.fill := rfl
@[simp] theorem State.answer_rdCur (v : Byte) (s : State) : (s.answer v).rdCur = s.rdCur := rfl
@[simp] theorem State.answer_rxSkip (v : Byte) (s : State) : (s.answer v).rxSkip = s.rxSkip := rfl
@[simp] theorem State.answer_disp (v : Byte) (s : State) : (s.answer v).disp = s.disp := rfl
@[simp] theorem State.answer_status (v : Byte) (s : State) : (s.answer v).status = s.status := rfl
@[simp] theorem State.answer_selectedChannel (v : Byte) (s : State) : (s.answer v).selectedChannel = s.selectedChannel := rfl
@[simp] theorem State.answer_readPointer (v : Byte) (s : State) : (s.answer v).readPointer = s.readPointer := rfl
@[simp] theorem State.answer_pending (v : Byte) (s : State) : (s.answer v).pending = s.pending := rfl
@[simp] theorem State.answer_draws (v : Byte) (s : State) : (s.answer v).draws = s.draws := rfl
@[simp] theorem State.answer_returned (v : Byte) (s : State) : (s.answer v).returned = s.returned ++ [v] := rfl
@[simp] theorem State.answer_diag (v : Byte) (s : State) : (s.answer v).diag = s.diag := rfl

/-! ### `State.countDraw` -/
@[simp] theorem State.countDraw_buf (s : State) : s.countDraw.buf = s.buf := rfl
@[simp] theorem State.countDraw_fill (s : State) : s.countDraw.fill = s.fill := rfl
@[simp] theorem State.countDraw_rdCur (s : State) : s.countDraw.rdCur = s.rdCur := rfl
@[simp] theorem State.countDraw_rxSkip (s : State) : s.countDraw.rxSkip = s.rxSkip := rfl
@[simp] theorem State.countDraw_disp (s : State) : s.countDraw.disp = s.disp := rfl
@[simp] theorem State.countDraw_status (s : State) : s.countDraw.status = s.status := rfl
@[simp] theorem State.countDraw_selectedChannel (s : State) : s.countDraw.selectedChannel = s.selectedChannel := rfl
@[simp] theorem State.countDraw_readPointer (s : State) : s.countDraw.readPointer = s.readPointer := rfl
@[simp] theorem State.countDraw_pending (s : State) : s.countDraw.pending = s.pending := rfl
@[simp] theorem State.countDraw_draws (s : State) : s.countDraw.draws = s.draws + 1 := rfl
@[simp] theorem State.countDraw_returned (s : State) : s.countDraw.returned = s.returned := rfl
@[simp] theorem State.countDraw_diag (s : State) : s.countDraw.diag = s.diag := rfl

/-! ### `State.withPending` -/
@[simp] theorem State.withPending_buf (es : List Event) (s : State) : (s.withPending es).buf = s.buf := rfl
@[simp] theorem State.withPending_fill (es : List Event) (s : State) : (s.withPending es).fill = s.fill := rfl
@[simp] theorem State.withPending_rdCur (es : List Event) (s : State) : (s.withPending es).rdCur = s.rdCur := rfl
@[simp] theorem State.withPending_rxSkip (es : List Event) (s : State) : (s.withPending es).rxSkip = s.rxSkip := rfl
@[simp] theorem State.withPending_disp (es : List Event) (s : State) : (s.withPending es).disp = s.disp := rfl
@[simp] theorem State.withPending_status (es : List Event) (s : State) : (s.withPending es).status = s.status := rfl
@[simp] theorem State.withPending_selectedChannel (es : List Event) (s : State) : (s.withPending es).selectedChannel = s.selectedChannel := rfl
@[simp] theorem State.withPending_readPointer (es : List Event) (s : State) : (s.withPending es).readPointer = s.readPointer := rfl
@[simp] theorem State.withPending_pending (es : List Event) (s : State) : (s.withPending es).pending = es := rfl
@[simp] theorem State.withPending_draws (es : List Event) (s : State) : (s.withPending es).draws = s.draws := rfl
@[simp] theorem State.withPending_returned (es : List Event) (s : State) : (s.withPending es).returned = s.returned := rfl
@[simp] theorem State.withPending_diag (es : List Event) (s : State) : (s.withPending es).diag = s.diag := rfl

/-! ### `powerOn` -/
@[simp] theorem powerOn_buf (s : State) : (powerOn s).buf = [] := rfl
@[simp] theorem powerOn_fill (s : State) : (powerOn s).fill = 0 := rfl
@[simp] theorem powerOn_rdCur (s : State) : (powerOn s).rdCur = 0 := rfl
@[simp] theorem powerOn_rxSkip (s : State) : (powerOn s).rxSkip = false := rfl
@[simp] theorem powerOn_disp (s : State) : (powerOn s).disp = .idle := rfl
@[simp] theorem powerOn_status (s : State) : (powerOn s).status = Config.statusIdle := rfl
@[simp] theorem powerOn_selectedChannel (s : State) : (powerOn s).selectedChannel = Config.chReset := rfl
@[simp] theorem powerOn_readPointer (s : State) : (powerOn s).readPointer = Config.rpReset := rfl
@[simp] theorem powerOn_pending (s : State) : (powerOn s).pending = s.pending := rfl
@[simp] theorem powerOn_draws (s : State) : (powerOn s).draws = s.draws := rfl
@[simp] theorem powerOn_returned (s : State) : (powerOn s).returned = s.returned := rfl
@[simp] theorem powerOn_diag (s : State) : (powerOn s).diag = s.diag := rfl

/-! ### Reading a slot looks at the buffer alone -/
@[simp] theorem State.clearFill_slotByte (s : State) (i : SlotIndex) : s.clearFill.slotByte i = s.slotByte i := rfl
@[simp] theorem State.rearm_slotByte (s : State) (i : SlotIndex) : s.rearm.slotByte i = s.slotByte i := rfl
@[simp] theorem State.consume_slotByte (s : State) (i : SlotIndex) : s.consume.slotByte i = s.slotByte i := rfl
@[simp] theorem State.await_slotByte (c : ParamCommand) (s : State) (i : SlotIndex) : (s.await c).slotByte i = s.slotByte i := rfl
@[simp] theorem State.withStatus_slotByte (v : Byte) (s : State) (i : SlotIndex) : (s.withStatus v).slotByte i = s.slotByte i := rfl
@[simp] theorem State.setChannel_slotByte (c : Byte) (s : State) (i : SlotIndex) : (s.setChannel c).slotByte i = s.slotByte i := rfl
@[simp] theorem State.setReadPointer_slotByte (p : Byte) (s : State) (i : SlotIndex) : (s.setReadPointer p).slotByte i = s.slotByte i := rfl
@[simp] theorem State.emit_slotByte (r : Diag) (s : State) (i : SlotIndex) : (s.emit r).slotByte i = s.slotByte i := rfl
@[simp] theorem State.answer_slotByte (v : Byte) (s : State) (i : SlotIndex) : (s.answer v).slotByte i = s.slotByte i := rfl
@[simp] theorem State.countDraw_slotByte (s : State) (i : SlotIndex) : s.countDraw.slotByte i = s.slotByte i := rfl
@[simp] theorem State.withPending_slotByte (es : List Event) (s : State) (i : SlotIndex) : (s.withPending es).slotByte i = s.slotByte i := rfl

/-- `PowerOn` is `State.reset` but for the inputs and outputs, which are outside the block (R24, R140). -/
theorem powerOn_eq_reset (s : State) : powerOn s =
    { State.reset with pending := s.pending, draws := s.draws, returned := s.returned, diag := s.diag } := rfl

end Sys2Proof.Machine
end

