-- ==== Sys2Proof/Laws/Memory.lean ====
section
/-! SUPPORT. The basic laws of the buffer as memory: a read after a write, every other index left alone, and the canonical form
kept. -/

namespace Sys2Proof.Machine

@[simp] theorem Memory.read?_nil (a : Nat) : Memory.read? [] a = none := rfl

@[simp] theorem Memory.read?_write_self (m : Memory) (a : Nat) (b : Byte) : (m.write a b).read? a = some b := by
  induction m with
  | nil => simp [Memory.write, Memory.read?]
  | cons c m ih =>
    obtain ⟨a', b'⟩ := c
    simp only [Memory.write]
    split
    · simp [Memory.read?]
    · split
      · simp [Memory.read?]
      · next h => simp [Memory.read?, h, ih]

theorem Memory.read?_write_other (m : Memory) {a i : Nat} (b : Byte) (h : i ≠ a) :
    (m.write a b).read? i = m.read? i := by
  induction m with
  | nil => simp [Memory.write, Memory.read?, h]
  | cons c m ih =>
    obtain ⟨a', b'⟩ := c
    simp only [Memory.write]
    split
    · simp [Memory.read?, h]
    · split
      · next h' => subst h'; simp [Memory.read?, h]
      · simp [Memory.read?, ih]

/-- Every entry of a written memory is the new one or an old one. -/
theorem Memory.mem_write {m : Memory} {a : Nat} {b : Byte} {c : Host.Cell} (h : c ∈ m.write a b) : c = (a, b) ∨ c ∈ m := by
  induction m with
  | nil => exact .inl (by simpa [Memory.write] using h)
  | cons d m ih =>
    obtain ⟨a', b'⟩ := d
    simp only [Memory.write] at h
    split at h
    · simpa using h
    · split at h
      · rcases List.mem_cons.1 h with h | h
        · exact .inl h
        · exact .inr (List.mem_cons_of_mem _ h)
      · rcases List.mem_cons.1 h with h | h
        · exact .inr (by simp [h])
        · exact (ih h).imp id (List.mem_cons_of_mem _)

/-- A write keeps the canonical form, for an index of the buffer's space. -/
theorem Memory.wf_write {m : Memory} (hm : m.wf) {a : Nat} (ha : a < Config.capacity) (b : Byte) : (m.write a b).wf := by
  refine ⟨?_, fun c hc => ?_⟩
  · have rising := hm.1
    clear hm
    induction m with
    | nil => simp [Memory.write]
    | cons d m ih =>
      obtain ⟨a', b'⟩ := d
      obtain ⟨first, rest⟩ := List.pairwise_cons.1 rising
      simp only [Memory.write]
      split
      · next hlt =>
        refine List.pairwise_cons.2 ⟨fun y hy => ?_, rising⟩
        rcases List.mem_cons.1 hy with rfl | hy
        · exact hlt
        · exact hlt.trans (first y hy)
      · split
        · next heq => subst heq; exact List.pairwise_cons.2 ⟨first, rest⟩
        · next hge hne =>
          refine List.pairwise_cons.2 ⟨fun y hy => ?_, ih rest⟩
          rcases Memory.mem_write hy with rfl | hy
          · show a' < a; omega
          · exact first y hy
  · rcases Memory.mem_write hc with rfl | hc
    · exact ha
    · exact hm.2 c hc

theorem Memory.wf_nil : Memory.wf [] := ⟨List.Pairwise.nil, by simp⟩

/-- The slot just stored holds the byte. -/
theorem State.store_slotByte_fill (b : Byte) (s : State) : (s.store b).slotByte s.fill = b := by
  simp [State.slotByte]

/-- Every other slot is left alone. -/
theorem State.store_slotByte_other (b : Byte) (s : State) {i : SlotIndex} (h : i ≠ s.fill) :
    (s.store b).slotByte i = s.slotByte i := by
  have : i.val ≠ s.fill.val := fun e => h (Fin.ext e)
  simp [State.slotByte, Memory.read?_write_other _ b this]

/-- A slot that is known to hold a byte reads as it. -/
theorem State.slotByte_of_read? {s : State} {i : SlotIndex} {b : Byte} (h : s.buf.read? i.val = some b) : s.slotByte i = b := by
  simp [State.slotByte, h]

end Sys2Proof.Machine
end

