-- ==== Sys2Proof/Laws/Ops.lean ====
section
/-! SUPPORT. One lemma per shared operation that says everything it can do; later proofs cite these instead of unfolding. -/

namespace Sys2Proof.Machine

/-- `append` either finds the buffer full and changes nothing, or stores the byte (R71). -/
theorem State.append_cases (b : Byte) (s : State) :
    (s.fill.val = Config.fillMax ∧ s.append b = (false, s)) ∨ (s.fill.val < Config.fillMax ∧ s.append b = (true, s.store b)) := by
  by_cases h : s.fill.val = Config.fillMax
  · exact .inl ⟨h, by rw [State.append, if_pos h]⟩
  · have := s.fill.isLt
    exact .inr ⟨by simp only [Config.fillMax, Config.capacity] at *; omega, by rw [State.append, if_neg h]⟩

/-- The fill length after a store: one more, never wrapped (R12, R71). -/
theorem State.store_fill_val {s : State} (b : Byte) (h : s.fill.val < Config.fillMax) : (s.store b).fill.val = s.fill.val + 1 := by
  simp only [State.store_fill, Fin.val_add, Config.fillMax, Config.capacity] at *
  rw [show ((1 : SlotIndex).val) = 1 from rfl]
  omega

@[simp] theorem State.hasParameterAt_iff (s : State) (i : SlotIndex) : s.hasParameterAt i = true ↔ i.val < s.fill.val := by
  simp [State.hasParameterAt]

theorem SlotIndex.eq_zero_iff (i : SlotIndex) : i = 0 ↔ i.val = 0 := Fin.ext_iff

/-- The window of an empty buffer (R104). -/
theorem State.fetchWindow_empty {s : State} (h : s.fill.val = 0) : s.fetchWindow = [] := by
  simp [State.fetchWindow, State.firstCommandByte?, State.hasParameterAt, h]

/-- The window while only the command byte is there (R58). -/
theorem State.fetchWindow_one {s : State} (h : s.fill.val = 1) : s.fetchWindow = [s.slotByte 0] := by
  simp [State.fetchWindow, State.firstCommandByte?, State.parameter?, State.hasParameterAt, h]

/-- The window once the parameter byte is there. -/
theorem State.fetchWindow_two {s : State} (h : 2 ≤ s.fill.val) : s.fetchWindow = [s.slotByte 0, s.slotByte 1] := by
  have h0 : 0 < s.fill.val := by omega
  have h1 : 1 < s.fill.val := by omega
  simp [State.fetchWindow, State.firstCommandByte?, State.parameter?, State.hasParameterAt, h0, h1]

/-- Every command answers a next state, whatever the state (R56, R120). -/
theorem exec_answers (i : Instr) (s : State) : ∃ t, exec i s = .next t := by
  cases i <;> exact ⟨_, rfl⟩

/-- An unknown byte 0 has the unknown outcome, whether or not it is one of the six listed by value (R95 to R101). -/
theorem exec_unknownInstr (c : Byte) (s : State) : exec (unknownInstr c) s = .next (s.unknownOutcome c) := by
  unfold unknownInstr
  repeat' split
  all_goals first | (next h => rw [h]; rfl) | rfl

/-- What a command can do: consume the buffer after one register write and one record (R92 to R95). -/
theorem exec_cases {i : Instr} {s t : State} (h : exec i s = .next t) :
    (i = .reset ∧ t = s.doReset) ∨
    (∃ p, i = .setReadPtr p ∧ t = ((s.setReadPointer p).emit (.cmdSetReadPtr p)).consume) ∨
    (∃ p, i = .channelSelect p ∧ t = ((s.setChannel p).emit (.cmdChannelSelect p)).consume) ∨
    (i ≠ .reset ∧ t = s.unknownOutcome i.opcode) := by
  cases i with
  | reset => exact .inl ⟨rfl, (Host.Outcome.next.inj h).symm⟩
  | setReadPtr p => exact .inr (.inl ⟨p, rfl, (Host.Outcome.next.inj h).symm⟩)
  | channelSelect p => exact .inr (.inr (.inl ⟨p, rfl, (Host.Outcome.next.inj h).symm⟩))
  | unkD2 => exact .inr (.inr (.inr ⟨nofun, (Host.Outcome.next.inj h).symm⟩))
  | unkB4 => exact .inr (.inr (.inr ⟨nofun, (Host.Outcome.next.inj h).symm⟩))
  | unk87 => exact .inr (.inr (.inr ⟨nofun, (Host.Outcome.next.inj h).symm⟩))
  | unkA5 => exact .inr (.inr (.inr ⟨nofun, (Host.Outcome.next.inj h).symm⟩))
  | unk96 => exact .inr (.inr (.inr ⟨nofun, (Host.Outcome.next.inj h).symm⟩))
  | unk78 => exact .inr (.inr (.inr ⟨nofun, (Host.Outcome.next.inj h).symm⟩))
  | unknown c => exact .inr (.inr (.inr ⟨nofun, (Host.Outcome.next.inj h).symm⟩))

end Sys2Proof.Machine
end

