-- ==== Sys2Proof/Laws/Events.lean ====
section
/-! SUPPORT. What each event can do, once; and how a step and a run are made of events. -/

namespace Sys2Proof.Machine

/-- What `RxByte(b)` can do (R76): skip, drop for want of room, run the RESET fast path, or store. -/
theorem rxByte_cases (b : Byte) (s : State) :
    (s.rxSkip = true ∧ rxByte b s = s.emit (.rx b)) ∨
    (s.rxSkip = false ∧ s.fill.val = Config.fillMax ∧ rxByte b s = (s.emit (.rx b)).emit (.overflow b)) ∨
    (s.rxSkip = false ∧ s.fill = 0 ∧ b = Config.opReset ∧ rxByte b s = ((s.emit (.rx b)).store b).doReset) ∨
    (s.rxSkip = false ∧ s.fill.val < Config.fillMax ∧ ¬ (s.fill = 0 ∧ b = Config.opReset) ∧
      rxByte b s = (s.emit (.rx b)).store b) := by
  cases hs : s.rxSkip with
  | true => exact .inl ⟨rfl, by simp [rxByte, hs]⟩
  | false =>
    right
    obtain ⟨hf, ha⟩ | ⟨hf, ha⟩ := State.append_cases b (s.emit (.rx b))
    · exact .inl ⟨rfl, hf, by simp [rxByte, hs, receiveByte, ha]⟩
    · right
      by_cases hr : s.fill = 0 ∧ b = Config.opReset
      · obtain ⟨hr0, rfl⟩ := hr
        exact .inl ⟨rfl, hr0, rfl, by simp [rxByte, hs, receiveByte, ha, hr0]⟩
      · exact .inr ⟨rfl, hf, hr, by simp [rxByte, hs, receiveByte, ha, hr]⟩

/-- What `RdReq` can do (R110). -/
theorem rdReq_cases (s : State) :
    (s.readPointer = Config.selStatus ∧
      rdReq s = ((s.withStatus Config.statusIdle).answer s.status).emit (.statusRead s.status)) ∨
    (s.readPointer ≠ Config.selStatus ∧
      rdReq s = (s.countDraw.answer s.nextDraw).emit (.unsupportedRead s.readPointer)) := by
  by_cases h : s.readPointer = Config.selStatus
  · exact .inl ⟨h, by simp [rdReq, State.getReadPointer, State.readStatus, h]⟩
  · exact .inr ⟨h, by simp [rdReq, State.getReadPointer, h]⟩

/-- What `Tick` can do (R90): nothing, RESET, the two register commands, the wait, or the unknown outcome. -/
theorem tick_cases (s : State) :
    (s.fill.val = 0 ∧ tick s = .next s) ∨
    (1 ≤ s.fill.val ∧ s.slotByte 0 = Config.opReset ∧ tick s = .next s.doReset) ∨
    (2 ≤ s.fill.val ∧ s.slotByte 0 = Config.opSetReadPtr ∧
      tick s = .next ((s.setReadPointer (s.slotByte 1)).emit (.cmdSetReadPtr (s.slotByte 1))).consume) ∨
    (2 ≤ s.fill.val ∧ s.slotByte 0 = Config.opChannelSelect ∧
      tick s = .next ((s.setChannel (s.slotByte 1)).emit (.cmdChannelSelect (s.slotByte 1))).consume) ∨
    (∃ c : ParamCommand, s.fill.val = 1 ∧ s.slotByte 0 = c.opcode ∧ tick s = .next (s.await c)) ∨
    (1 ≤ s.fill.val ∧ s.slotByte 0 ≠ Config.opReset ∧ s.slotByte 0 ≠ Config.opSetReadPtr ∧
      s.slotByte 0 ≠ Config.opChannelSelect ∧ tick s = .next (s.unknownOutcome (s.slotByte 0))) := by
  have byFill : s.fill.val = 0 ∨ s.fill.val = 1 ∨ 2 ≤ s.fill.val := by omega
  by_cases hr : s.slotByte 0 = Config.opReset
  · rcases byFill with h | h | h
    · exact .inl ⟨h, by simp [tick, State.fetchWindow_empty h]⟩
    · exact .inr (.inl ⟨by omega, hr, by simp only [tick, State.fetchWindow_one h, hr]; rfl⟩)
    · exact .inr (.inl ⟨by omega, hr, by simp only [tick, State.fetchWindow_two h, hr]; rfl⟩)
  by_cases hp : s.slotByte 0 = Config.opSetReadPtr
  · rcases byFill with h | h | h
    · exact .inl ⟨h, by simp [tick, State.fetchWindow_empty h]⟩
    · exact .inr (.inr (.inr (.inr (.inl ⟨.setReadPtr, h, hp, by simp only [tick, State.fetchWindow_one h, hp]; rfl⟩))))
    · exact .inr (.inr (.inl ⟨h, hp, by simp only [tick, State.fetchWindow_two h, hp]; rfl⟩))
  by_cases hc : s.slotByte 0 = Config.opChannelSelect
  · rcases byFill with h | h | h
    · exact .inl ⟨h, by simp [tick, State.fetchWindow_empty h]⟩
    · exact .inr (.inr (.inr (.inr (.inl ⟨.channelSelect, h, hc, by simp only [tick, State.fetchWindow_one h, hc]; rfl⟩))))
    · exact .inr (.inr (.inr (.inl ⟨h, hc, by simp only [tick, State.fetchWindow_two h, hc]; rfl⟩)))
  rcases byFill with h | h | h
  · exact .inl ⟨h, by simp [tick, State.fetchWindow_empty h]⟩
  · exact .inr (.inr (.inr (.inr (.inr ⟨by omega, hr, hp, hc, by
      simp only [tick, State.fetchWindow_one h, decode_other _ hr hp hc, exec_unknownInstr]⟩))))
  · exact .inr (.inr (.inr (.inr (.inr ⟨by omega, hr, hp, hc, by
      simp only [tick, State.fetchWindow_two h, decode_other _ hr hp hc, exec_unknownInstr]⟩))))

/-- With no event pending a step leaves the block as it is. -/
theorem step_of_none {s : State} (h : s.pending = []) : step s = .next s := by
  simp [step, takeEvent, h]

/-- With an event pending a step delivers it. -/
theorem step_of_event {s : State} {e : Event} {es : List Event} (h : s.pending = e :: es) :
    step s = deliver e (s.withPending es) := by
  simp [step, takeEvent, h]

@[simp] theorem run_zero (s : State) : Sys2Proof.core.run 0 s = .next s := rfl

/-- One step of a run. -/
theorem run_succ {s t : State} (k : Nat) (h : step s = .next t) : Sys2Proof.core.run (k + 1) s = Sys2Proof.core.run k t := by
  have h' : Sys2Proof.core.step s = .next t := h
  simp [Host.Core.run, h']

/-- Runs compose. -/
theorem run_add {s t : State} (j k : Nat) (h : Sys2Proof.core.run j s = .next t) :
    Sys2Proof.core.run (j + k) s = Sys2Proof.core.run k t := by
  induction j generalizing s with
  | zero => rw [Nat.zero_add]; exact congrArg _ (Host.Outcome.next.inj h)
  | succ j ih =>
    rw [Nat.add_right_comm]
    simp only [Host.Core.run] at h ⊢
    split at h
    · exact ih h
    · exact nomatch h
    · exact nomatch h

/-- A run of as many steps as there are events in a prefix of the pending ones, one delivered after the other (R38). -/
theorem run_cons {s t : State} {e : Event} {es : List Event} (k : Nat) (h : s.pending = e :: es)
    (hd : deliver e (s.withPending es) = .next t) : Sys2Proof.core.run (k + 1) s = Sys2Proof.core.run k t :=
  run_succ k ((step_of_event h).trans hd)

/-- No event but the next step itself touches what is pending. -/
theorem deliver_pending {e : Event} {s t : State} (h : deliver e s = .next t) : t.pending = s.pending := by
  cases e with
  | powerOn => rw [← Host.Outcome.next.inj h]; rfl
  | rxStart => rw [← Host.Outcome.next.inj h]; rfl
  | rxByte b =>
    rw [← Host.Outcome.next.inj h]
    obtain ⟨-, h⟩ | ⟨-, -, h⟩ | ⟨-, -, -, h⟩ | ⟨-, -, -, h⟩ := rxByte_cases b s <;> simp [h, State.doReset]
  | rdReq =>
    rw [← Host.Outcome.next.inj h]
    obtain ⟨-, h⟩ | ⟨-, h⟩ := rdReq_cases s <;> simp [h]
  | tick =>
    change tick s = .next t at h
    obtain ⟨-, h'⟩ | ⟨-, -, h'⟩ | ⟨-, -, h'⟩ | ⟨-, -, h'⟩ | ⟨c, -, -, h'⟩ | ⟨-, -, -, -, h'⟩ := tick_cases s <;>
      rw [← Host.Outcome.next.inj (h'.symm.trans h)] <;> simp [State.doReset, State.unknownOutcome]

end Sys2Proof.Machine
end

