-- ==== Sys2Proof/Laws/PerInstr.lean ====
section
/-! SUPPORT. Facts stated of every instruction, one lemma per constructor. Family `Format`: a command's bytes have the length that
byte 0 announces and begin with its opcode (spec R50 to R52). -/

namespace Sys2Proof.Laws.Format

/-- The encoding of a well-formed command begins with its opcode and is as long as byte 0 says. -/
def Statement (i : Instr) : Prop :=
  i.WellFormed → (encode i).head? = some i.opcode ∧ (encode i).length = commandLength i.opcode

theorem reset : Statement .reset := fun _ => ⟨rfl, rfl⟩
theorem setReadPtr (p : Byte) : Statement (.setReadPtr p) := fun _ => ⟨rfl, rfl⟩
theorem channelSelect (p : Byte) : Statement (.channelSelect p) := fun _ => ⟨rfl, rfl⟩
theorem unkD2 : Statement .unkD2 := fun _ => ⟨rfl, rfl⟩
theorem unkB4 : Statement .unkB4 := fun _ => ⟨rfl, rfl⟩
theorem unk87 : Statement .unk87 := fun _ => ⟨rfl, rfl⟩
theorem unkA5 : Statement .unkA5 := fun _ => ⟨rfl, rfl⟩
theorem unk96 : Statement .unk96 := fun _ => ⟨rfl, rfl⟩
theorem unk78 : Statement .unk78 := fun _ => ⟨rfl, rfl⟩
theorem unknown (c : Byte) : Statement (.unknown c) := by
  intro h
  have h' : c ∉ listedOpcodes := of_decide_eq_true h
  simp only [listedOpcodes, List.mem_cons, not_or] at h'
  simp [encode, Instr.opcode, Instr.params, commandLength, h'.2.1, h'.2.2.1]

end Sys2Proof.Laws.Format
end

