-- ==== Sys2Proof/Tests/Slice0.lean ====
section
/-! SUPPORT. Tests, each on one step of a small state, with the expected result taken from the spec's encoding table (30_encoding.md
section 3) and its vectors (95_test_vectors.md; the vector's id stands in the comment), and for every statement with hypotheses a
concrete case that meets them. -/

namespace Sys2Proof.Machine.Tests

/-- A small state: registers as given, nothing pending, nothing put out. -/
def small (bytes : List Byte) (status channel pointer : Byte) : State where
  buf := bytes.zipIdx.map (fun c => (c.2, c.1))
  fill := Fin.ofNat 16 bytes.length
  rdCur := 0
  rxSkip := false
  disp := .idle
  status := status
  selectedChannel := channel
  readPointer := pointer
  pending := []
  draws := 0
  returned := []
  diag := []

/-- The state after delivering one event. -/
def after (e : Event) (s : State) : Option State :=
  match step (s.withPending [e]) with
  | .next t => some t
  | .fault _ => none
  | .refused _ => none

/-- The state after `k` steps. -/
def runState (k : Nat) (s : State) : Option State :=
  match Sys2Proof.core.run k s with
  | .next t => some t
  | .fault _ => none
  | .refused _ => none

/-- The spec's state tuple (R8), without the buffer's bytes. -/
structure Tuple where
  fill : Nat
  rdCur : Nat
  rxSkip : Bool
  disp : Disp
  status : Byte
  channel : Byte
  pointer : Byte
deriving DecidableEq, Repr

/-- The tuple of a state. -/
def tuple (s : State) : Tuple :=
  ⟨s.fill.val, s.rdCur.val, s.rxSkip, s.disp, s.status, s.selectedChannel, s.readPointer⟩

/-! ### Well-formedness: the check refuses each ill-formed term -/

theorem test_unknown_of_listed_opcode_is_ill_formed : ∀ c ∈ listedOpcodes, ¬ (Instr.unknown c).WellFormed := by decide

theorem test_unknown_99_is_well_formed : (Instr.unknown 0x99#8).WellFormed := by decide

/-! ### Decoding: bytes written out from the table of 30_encoding.md section 3, bit 7 first -/

theorem test_decode_reset : decode [0b11110000#8] = .ok (.reset, []) := by rfl
theorem test_decode_setReadPtr : decode [0b11100001#8, 0b11110000#8] = .ok (.setReadPtr 0xF0#8, []) := by rfl
theorem test_decode_channelSelect : decode [0b11000011#8, 0b00000010#8] = .ok (.channelSelect 0x02#8, []) := by rfl
theorem test_decode_unkD2 : decode [0b11010010#8, 0b11100001#8] = .ok (.unkD2, [0xE1#8]) := by rfl
theorem test_decode_unkB4 : decode [0b10110100#8] = .ok (.unkB4, []) := by rfl
theorem test_decode_unk87 : decode [0b10000111#8] = .ok (.unk87, []) := by rfl
theorem test_decode_unkA5 : decode [0b10100101#8] = .ok (.unkA5, []) := by rfl
theorem test_decode_unk96 : decode [0b10010110#8] = .ok (.unk96, []) := by rfl
theorem test_decode_unk78 : decode [0b01111000#8] = .ok (.unk78, []) := by rfl
theorem test_decode_unknown : decode [0b10011001#8] = .ok (.unknown 0x99#8, []) := by rfl
theorem test_decode_waits : decode [0b11100001#8] = .error (.parameterMissing .setReadPtr) := by rfl

/-- D23: neighbours of the implemented opcodes are not aliases of them. -/
theorem test_decode_neighbours :
    ∀ c ∈ [0xF1#8, 0xE0#8, 0xE2#8, 0xC2#8, 0xC4#8, 0x70#8], decodeTableWord 8 (BitVec.toNat c) = some (.unknown c) := by decide

/-- The second byte of a table word is bits 15..8; the missing one is 0. -/
theorem test_decodeTableWord :
    decodeTableWord 16 0x02C3 = some (.channelSelect 0x02#8) ∧ decodeTableWord 8 0xE1 = some (.setReadPtr 0x00#8) := by decide

theorem test_encode : encode (.setReadPtr 0xD2#8) = [0xE1#8, 0xD2#8] ∧ encode .unk78 = [0x78#8] := by decide

/-! ### The commands, each by one `Tick` -/

/-- R92's rule on the `Tick` arm: pointer and channel kept (D3). -/
theorem test_reset : (after .tick (small [0xF0#8] 0x08#8 0x05#8 0xE1#8)).map tuple =
    some ⟨0, 0, true, .idle, 0x18#8, 0x05#8, 0xE1#8⟩ := by decide
/-- R93's example. -/
theorem test_setReadPtr : (after .tick (small [0xE1#8, 0xF0#8] 0x18#8 0x05#8 0xE1#8)).map tuple =
    some ⟨0, 0, true, .idle, 0x18#8, 0x05#8, 0xF0#8⟩ := by decide
/-- R94's example. -/
theorem test_channelSelect : (after .tick (small [0xC3#8, 0x02#8] 0x08#8 0x05#8 0xE1#8)).map tuple =
    some ⟨0, 0, true, .idle, 0x08#8, 0x02#8, 0xE1#8⟩ := by decide
/-- D16 to D21, D22: the unknown outcome leaves the registers alone and records byte 0. -/
theorem test_unknown_commands : ∀ c ∈ [0xD2#8, 0xB4#8, 0x87#8, 0xA5#8, 0x96#8, 0x78#8, 0x00#8, 0xFF#8],
    (after .tick (small [c, 0x80#8] 0x18#8 0x05#8 0xE1#8)).map (fun t => (tuple t, t.diag)) =
      some (⟨0, 0, true, .idle, 0x18#8, 0x05#8, 0xE1#8⟩, [.unknown c]) := by decide
/-- D8: the wait; the buffer keeps its byte. -/
theorem test_wait : (after .tick (small [0xE1#8] 0x08#8 0x05#8 0xF0#8)).map (fun t => (tuple t, t.slotByte 0)) =
    some (⟨1, 1, false, .awaitParam .setReadPtr, 0x08#8, 0x05#8, 0xF0#8⟩, 0xE1#8) := by decide
/-- D25. -/
theorem test_tick_on_empty : after .tick (small [] 0x18#8 0x05#8 0xE1#8) = some (small [] 0x18#8 0x05#8 0xE1#8) := by decide

/-! ### The other events -/

/-- B1. -/
theorem test_rxByte_last_slot : (after (.rxByte 0xAA#8) (small (List.replicate 14 0x99#8) 0x08#8 0x05#8 0xF0#8)).map
    (fun t => (t.fill.val, t.slotByte 14, t.diag)) = some (15, 0xAA#8, [.rx 0xAA#8]) := by decide
/-- B2. -/
theorem test_rxByte_full : (after (.rxByte 0xBB#8) (small (List.replicate 15 0x99#8) 0x08#8 0x05#8 0xF0#8)).map
    (fun t => (t.fill.val, t.buf.length, t.diag)) = some (15, 15, [.rx 0xBB#8, .overflow 0xBB#8]) := by decide
/-- E2 step 2: the fast path. -/
theorem test_rxByte_fast_path : (after (.rxByte 0xF0#8) (small [] 0x08#8 0x05#8 0xF0#8)).map (fun t => (tuple t, t.diag)) =
    some (⟨0, 0, true, .idle, 0x18#8, 0x05#8, 0xF0#8⟩, [.rx 0xF0#8, .cmdReset]) := by decide
/-- E3 step 3: 0xF0 at index 1 is a parameter. -/
theorem test_rxByte_parameter_f0 : (after (.rxByte 0xF0#8) (small [0xE1#8] 0x18#8 0x05#8 0xE1#8)).map (fun t => (tuple t, t.slotByte 1)) =
    some (⟨2, 0, false, .idle, 0x18#8, 0x05#8, 0xE1#8⟩, 0xF0#8) := by decide
/-- B5. -/
theorem test_rxByte_skipped : (after (.rxByte 0xE1#8) (small [] 0x18#8 0x05#8 0xE1#8).consume).map (fun t => (tuple t, t.diag)) =
    some (⟨0, 0, true, .idle, 0x18#8, 0x05#8, 0xE1#8⟩, [.rx 0xE1#8]) := by decide
/-- B4. -/
theorem test_rxStart_abandons_wait : (after .rxStart ((small [0xE1#8] 0x08#8 0x05#8 0xF0#8).await .setReadPtr)).map tuple =
    some ⟨0, 0, false, .idle, 0x08#8, 0x05#8, 0xF0#8⟩ := by decide
/-- Q1. -/
theorem test_rdReq_status : (after .rdReq (small [] 0x18#8 0x05#8 0xF0#8)).map (fun t => (t.status, t.returned)) =
    some (0x08#8, [0x18#8]) := by decide
/-- Q2: `status` is not cleared; the byte is a draw. -/
theorem test_rdReq_unsupported : (after .rdReq (small [] 0x18#8 0x05#8 0xE1#8)).map (fun t => (t.status, t.diag, t.returned.length)) =
    some (0x18#8, [.unsupportedRead 0xE1#8], 1) := by decide
/-- E2 step 0. -/
theorem test_powerOn : (after .powerOn (small [0xE1#8] 0x18#8 0x05#8 0xE1#8)).map (fun t => (t.fill.val, t.status, t.readPointer)) =
    some (0, 0x08#8, 0xF0#8) := by decide
/-- G3 and G5. -/
theorem test_writeStatusFlags : ((small [] 0x08#8 0#8 0#8).writeStatusFlags 0x10#8).status = 0x18#8 ∧
    ((small [] 0x18#8 0#8 0#8).writeStatusFlags 0x00#8).status = 0x18#8 := by decide

/-! ### A command placed where the next step fetches it, as the first after reset -/

theorem test_withFetchWord_setReadPtr :
    step (State.reset.withFetchWord 16 0xB4E1) =
      exec (.setReadPtr 0xB4#8) ((State.reset.withFetchWord 16 0xB4E1).withPending []) := by rfl

theorem test_withFetchWord_unknown :
    step (State.reset.withFetchWord 8 0x00) = exec (.unknown 0x00#8) ((State.reset.withFetchWord 8 0x00).withPending []) := by rfl

/-! ### Every statement's hypotheses can be met -/

/-- A state with a CHANNEL_SELECT complete in the buffer, RST set and the pointer elsewhere. -/
def loaded : State := small [0xC3#8, 0x05#8] 0x18#8 0x02#8 0xE1#8

/-- An empty buffer, the pointer at the status register. -/
def idle : State := small [] 0x18#8 0x02#8 0xF0#8

/-- A CP opcode waiting for its parameter. -/
def waiting : State := (small [0xE1#8] 0x08#8 0x02#8 0xF0#8).await .setReadPtr

/-- A full buffer. -/
def full : State := small (List.replicate 15 0x99#8) 0x08#8 0x02#8 0xF0#8

theorem loaded_inv : loaded.Inv := by constructor <;> first | decide | (intro c h; exact nomatch h)
theorem idle_inv : idle.Inv := by constructor <;> first | decide | (intro c h; exact nomatch h)
theorem waiting_inv : waiting.Inv := by
  constructor <;> first | decide | (intro c h; cases c <;> first | decide | exact absurd h (by decide))

theorem withPending_inv {s : State} (h : s.Inv) (es : List Event) : (s.withPending es).Inv :=
  ⟨h.bufWf, h.slot15Free, h.validStored, h.statusValue, h.fillNoSkip, h.fillNotReset, h.idleCursor, h.awaitCursor⟩

theorem witness_UnknownCommandsComplete :
    ∀ ic ∈ [(Instr.unkD2, 0xD2#8), (.unk78, 0x78#8), (.unknown 0x00#8, 0x00#8)],
      ic ∈ [(Instr.unkD2, 0xD2#8), (.unkB4, 0xB4#8), (.unk87, 0x87#8), (.unkA5, 0xA5#8), (.unk96, 0x96#8), (.unk78, 0x78#8),
        (.unknown ic.2, ic.2)] := by decide
theorem witness_CommandsFrame : exec (.channelSelect 0x07#8) loaded = .next (((loaded.setChannel 0x07#8).emit (.cmdChannelSelect 0x07#8)).consume) := rfl
theorem witness_StepDeliversOldestEvent : (loaded.withPending [.rdReq, .tick]).pending = .rdReq :: [.tick] ∧ loaded.pending = [] := ⟨rfl, rfl⟩
theorem witness_TickRunsDecodedCommand :
    (loaded.withPending [.tick]).pending = .tick :: [] ∧ decode (loaded.withPending [.tick]).fetchWindow = .ok (.channelSelect 0x05#8, []) :=
  ⟨rfl, rfl⟩
theorem witness_TickByByteZero : (waiting.withPending [.tick, .rdReq]).pending = .tick :: [.rdReq] := rfl
theorem witness_ParameterIsTakenWhole_channel :
    (loaded.withPending [.tick]).pending = .tick :: [] ∧ 2 ≤ (loaded.withPending [.tick]).fill.val ∧
      (loaded.withPending [.tick]).slotByte 0 = 0xC3#8 := by decide
theorem witness_ParameterIsTakenWhole_pointer :
    let s := (small (List.replicate 15 0xE1#8) 0x08#8 0x02#8 0xF0#8).withPending [.tick]
    s.pending = .tick :: [] ∧ 2 ≤ s.fill.val ∧ s.slotByte 0 = 0xE1#8 := by decide
theorem witness_UnknownByteZeroOnlyConsumes :
    let s := (small [0xFF#8] 0x08#8 0x02#8 0xF0#8).withPending [.tick]
    s.pending = .tick :: [] ∧ 1 ≤ s.fill.val ∧ s.slotByte 0 ≠ 0xF0#8 ∧ s.slotByte 0 ≠ 0xE1#8 ∧ s.slotByte 0 ≠ 0xC3#8 := by decide
theorem witness_DecodeInvertsEncode : (Instr.unknown 0xF1#8).WellFormed ∧ (Instr.setReadPtr 0xFF#8).WellFormed := by decide
theorem witness_ByteZeroSelectsFormat :
    decode [0xC3#8, 0xFF#8, 0x01#8] = .ok (.channelSelect 0xFF#8, [0x01#8]) ∧ (0xE1#8 = 0xE1#8 ∨ 0xE1#8 = 0xC3#8) ∧
      ¬ (0xF0#8 = 0xE1#8 ∨ 0xF0#8 = 0xC3#8) := ⟨rfl, by decide, by decide⟩
theorem witness_RxStartEmptiesAndRearms : (waiting.withPending [.rxStart]).pending = .rxStart :: [] := rfl
theorem witness_RxByteByCase_skipped :
    (idle.consume.withPending [.rxByte 0xF0#8]).pending = .rxByte 0xF0#8 :: [] ∧ idle.consume.rxSkip = true := ⟨rfl, rfl⟩
theorem witness_RxByteByCase_full :
    (full.withPending [.rxByte 0xF0#8]).pending = .rxByte 0xF0#8 :: [] ∧ full.rxSkip = false ∧ full.fill.val = 15 := by decide
theorem witness_RxByteByCase_fast_path : (idle.withPending [.rxByte 0xF0#8]).pending = .rxByte 0xF0#8 :: [] ∧ idle.fill.val = 0 := ⟨rfl, rfl⟩
theorem witness_RxByteByCase_stored : (waiting.withPending [.rxByte 0xF0#8]).pending = .rxByte 0xF0#8 :: [] ∧ waiting.fill.val = 1 := ⟨rfl, rfl⟩
/-- For the statements about one delivered event: every kind of event delivered. -/
theorem witness_delivered :
    deliver .rxStart loaded = .next (rxStart loaded) ∧ deliver .powerOn loaded = .next (powerOn loaded) ∧
      deliver .rdReq loaded = .next (rdReq loaded) ∧ deliver .tick waiting = .next waiting ∧
      deliver (.rxByte 0x01#8) full = .next (rxByte 0x01#8 full) ∧ deliver (.rxByte 0xF0#8) idle = .next (rxByte 0xF0#8 idle) :=
  ⟨rfl, rfl, rfl, rfl, rfl, rfl⟩
theorem witness_StatusReadReturnsAndClears : (idle.withPending [.rdReq]).pending = .rdReq :: [] ∧ idle.readPointer = 0xF0#8 := ⟨rfl, rfl⟩
theorem witness_UnsupportedReadChangesNothing : (loaded.withPending [.rdReq]).pending = .rdReq :: [] ∧ loaded.readPointer ≠ 0xF0#8 :=
  ⟨rfl, by decide⟩
theorem witness_EveryReadAnswersOneByte : (idle.withPending [.rdReq]).Inv ∧ (idle.withPending [.rdReq]).pending = .rdReq :: [] :=
  ⟨withPending_inv idle_inv _, rfl⟩
theorem witness_RepeatedReads :
    (idle.withPending [.rdReq, .rdReq, .tick]).pending = List.replicate (1 + 1) Event.rdReq ++ [.tick] ∧ idle.readPointer = 0xF0#8 ∧
      loaded.readPointer ≠ 0xF0#8 := by decide
theorem witness_BufferContractOperations : 1 ≤ waiting.fill.val ∧ idle.fill.val = 0 := by decide
theorem witness_AppendStoresOrDrops : full.fill.val = 15 ∧ (small (List.replicate 14 0#8) 0#8 0#8 0#8).fill.val = 14 := by decide
theorem witness_PowerOn : (waiting.withPending [.powerOn, .tick]).pending = .powerOn :: [.tick] := rfl
theorem witness_StepKeepsInvariant :
    (waiting.withPending [.rxStart]).Inv ∧ step (waiting.withPending [.rxStart]) = .next ((rxStart waiting).withPending []) :=
  ⟨withPending_inv waiting_inv _, rfl⟩
theorem witness_ReachableStatusBits : Reachable (rxByte 0xF0#8 (State.reset.withPending [])) :=
  .next (.start [.rxByte 0xF0#8]) rfl
theorem witness_ChannelWrittenOnlyByChannelSelect :
    ∃ t, step (loaded.withPending [.tick]) = .next t ∧ t.selectedChannel ≠ (loaded.withPending [.tick]).selectedChannel :=
  ⟨_, rfl, by decide⟩
theorem witness_PointerWrittenOnlyBySetReadPtr :
    ∃ t, step ((small [0xE1#8, 0x00#8] 0x08#8 0x02#8 0xF0#8).withPending [.tick]) = .next t ∧ t.readPointer ≠ 0xF0#8 :=
  ⟨_, rfl, by decide⟩
theorem witness_PointerWrittenAtPowerOn :
    ∃ t, step (loaded.withPending [.powerOn]) = .next t ∧ t.readPointer ≠ loaded.readPointer := ⟨_, rfl, by decide⟩
theorem witness_StatusWrittenOnlyByResetAndRead_read :
    (idle.withPending [.rdReq]).Inv ∧ ∃ t, step (idle.withPending [.rdReq]) = .next t ∧ t.status ≠ idle.status :=
  ⟨withPending_inv idle_inv _, _, rfl, by decide⟩
theorem witness_StatusWrittenOnlyByResetAndRead_reset :
    (State.reset.withPending [.rxByte 0xF0#8]).Inv ∧
      ∃ t, step (State.reset.withPending [.rxByte 0xF0#8]) = .next t ∧ t.status ≠ State.reset.status :=
  ⟨withPending_inv (by constructor <;> first | exact Memory.wf_nil | simp [State.reset]) _, _, rfl, by decide⟩
theorem witness_StatusWrittenOnlyByResetAndRead_powerOn :
    (loaded.withPending [.powerOn]).Inv ∧ ∃ t, step (loaded.withPending [.powerOn]) = .next t ∧ t.status ≠ loaded.status :=
  ⟨withPending_inv loaded_inv _, _, rfl, by decide⟩
/-- The three logged conditions do occur. -/
theorem witness_ConditionsAreRecordedExactly :
    .overflow 0x01#8 ∈ (rxByte 0x01#8 full).diag ∧ (full.rxSkip = false ∧ full.fill.val = 15) ∧
      .unsupportedRead 0xE1#8 ∈ (rdReq loaded).diag ∧ (full.slotByte 0 = 0x99#8 ∧ 1 ≤ full.fill.val) := by decide
theorem witness_EndOfTickLaw : loaded.Inv ∧ (∃ t, tick loaded = .next t ∧ t.fill.val = 0) ∧ waiting.Inv ∧ tick waiting = .next waiting :=
  ⟨loaded_inv, ⟨_, rfl, rfl⟩, waiting_inv, rfl⟩
theorem witness_SecondTickChangesNothing : tick waiting = .next waiting ∧ tick idle = .next idle ∧ idle.fill.val = 0 := ⟨rfl, rfl, rfl⟩
theorem witness_RunIsFoldOfEvents :
    (idle.withPending [.rdReq, .tick]).pending = [.rdReq] ++ [.tick] ∧
      deliverAll [.rdReq] { idle.withPending [.rdReq, .tick] with pending := [.tick] } = .next (rdReq (idle.withPending [.tick])) :=
  ⟨rfl, rfl⟩
theorem witness_TransactionNetEffect :
    (loaded.withPending (transaction [0xF0#8, 0x01#8])).pending = transaction [0xF0#8, 0x01#8] ++ [] ∧
      (loaded.withPending (transaction [0xD2#8] ++ [.tick])).pending = transaction [0xD2#8] ++ [.tick] := by decide
/-- The boundary lengths of a transaction whose byte 0 is not 0xF0: none, the largest that fits (15), one more (16). R79 gives what is
kept and what is dropped. -/
theorem witness_TransactionNetEffect_lengths :
    ∀ n ∈ [0, 15, 16],
      (idle.withPending (transaction (List.replicate n 0x99#8) ++ [.tick])).pending =
          transaction (List.replicate n 0x99#8) ++ [.tick] ∧
        (runState (n + 1) (idle.withPending (transaction (List.replicate n 0x99#8) ++ [.tick]))).map
            (fun t => (t.pending, t.fill.val, t.diag.count (.overflow 0x99#8))) =
          some ([.tick], min n 15, n - 15) := by decide
/-- D15 of 95_test_vectors.md: a `Tick` between byte 1 and byte 2. -/
theorem witness_OneCommandPerTransaction_channel :
    let before := [Event.rxByte 0xC3#8, .tick, .rxByte 0x02#8]
    let afterwards := [Event.rxByte 0xE1#8, .rxByte 0xF0#8, .tick]
    (∀ e ∈ before ++ afterwards, e.isByteOrTick = true) ∧ bytesOf before = 0xC3#8 :: [0x02#8] ∧
      (idle.withPending (.rxStart :: (before ++ .tick :: afterwards ++ []))).pending = .rxStart :: (before ++ .tick :: afterwards ++ []) :=
  ⟨by decide, rfl, rfl⟩
/-- The other clauses: RESET, SET_READ_PTR, an unknown byte 0, and a lone CP opcode. -/
theorem witness_OneCommandPerTransaction_other :
    bytesOf [.rxByte 0xF0#8] = 0xF0#8 :: [] ∧ bytesOf [.rxByte 0xE1#8, .tick, .rxByte 0xF0#8] = 0xE1#8 :: [0xF0#8] ∧
      bytesOf [.tick, .rxByte 0x99#8] = 0x99#8 :: [] ∧ bytesOf ([.rxByte 0xE1#8] ++ [.tick]) = [0xE1#8] ∧
      ∀ e ∈ [Event.rxByte 0xE1#8, .tick, .rxByte 0xF0#8], e.isByteOrTick = true := by decide
theorem witness_ResetThenTwoReads :
    idle.readPointer = 0xF0#8 ∧
      (idle.withPending (transaction [0xF0#8, 0xE1#8] ++ [.rdReq, .rdReq, .tick])).pending =
        transaction (0xF0#8 :: [0xE1#8]) ++ .rdReq :: .rdReq :: [.tick] := by decide
theorem witness_ReadStatusPseudoCommand :
    (loaded.withPending (pseudoReadStatus ++ [.rdReq])).pending = pseudoReadStatus ++ .rdReq :: [] := rfl
theorem witness_UndispatchedCommandIsLost :
    (loaded.withPending (transaction [0xC3#8, 0x05#8] ++ transaction [0xE1#8, 0xE1#8] ++ [.tick])).pending =
      transaction [0xC3#8, 0x05#8] ++ transaction [0xE1#8, 0xE1#8] ++ .tick :: [] := rfl
theorem witness_SplitParameterIsANewCommand_reset :
    (idle.withPending (transaction [0xE1#8] ++ .tick :: transaction [0xF0#8])).pending =
      transaction [0xE1#8] ++ .tick :: (transaction [0xF0#8] ++ []) := rfl
theorem witness_SplitParameterIsANewCommand_unknown :
    (0x05#8 ≠ 0xF0#8 ∧ 0x05#8 ≠ 0xE1#8 ∧ 0x05#8 ≠ 0xC3#8) ∧
      (idle.withPending (transaction [0xC3#8] ++ .tick :: (transaction [0x05#8] ++ [.tick]))).pending =
        transaction [0xC3#8] ++ .tick :: (transaction [0x05#8] ++ .tick :: []) := by decide
/-- For the three statements that compare two runs. -/
theorem witness_run :
    Sys2Proof.core.run 1 (loaded.withPending [.rdReq]) = .next (rdReq (loaded.withPending [])) ∧
      Memory.read? [(0, 0xC3#8), (1, 0x05#8), (2, 0xFF#8)] 0 = (loaded.withPending [.rdReq]).buf.read? 0 ∧
      Memory.read? [(0, 0xC3#8), (1, 0x05#8), (2, 0xFF#8)] 1 = (loaded.withPending [.rdReq]).buf.read? 1 := ⟨rfl, rfl, rfl⟩

end Sys2Proof.Machine.Tests
end

/-! ## Encoding: the statements of 30_encoding.md

First the decoder's rules, then what a `Tick` and a read make of them, then the obligations. -/

namespace Sys2Proof

/-- The two opcodes of format CP, said of the byte (R50, R52). -/
theorem ParamCommand.exists_opcode_eq_iff (c : Byte) :
    (∃ k : ParamCommand, k.opcode = c) ↔ c = Config.opSetReadPtr ∨ c = Config.opChannelSelect := by
  constructor
  · rintro ⟨k, rfl⟩
    cases k with
    | setReadPtr => exact .inl rfl
    | channelSelect => exact .inr rfl
  · rintro (rfl | rfl)
    · exact ⟨.setReadPtr, rfl⟩
    · exact ⟨.channelSelect, rfl⟩

theorem ParamCommand.withParam_wellFormed (k : ParamCommand) (p : Byte) : (k.withParam p).WellFormed := by
  cases k <;> rfl

@[simp] theorem ParamCommand.encode_withParam (k : ParamCommand) (p : Byte) : encode (k.withParam p) = [k.opcode, p] := by
  cases k <;> rfl

@[simp] theorem decodeParam_nil (k : ParamCommand) : decodeParam k [] = .error (.parameterMissing k) := rfl

@[simp] theorem decodeParam_cons (k : ParamCommand) (p : Byte) (rest : List Byte) :
    decodeParam k (p :: rest) = .ok (k.withParam p, rest) := rfl

/-- A format CP opcode at the front: what follows decides between the command and the wait. -/
theorem decode_paramOpcode (k : ParamCommand) (rest : List Byte) : decode (k.opcode :: rest) = decodeParam k rest := by
  cases k with
  | setReadPtr => exact decode_setReadPtr rest
  | channelSelect => exact decode_channelSelect rest

/-- The three kinds of byte 0: RESET, a format CP opcode, any other (R54, R66). -/
theorem decode_cons_cases (c : Byte) (rest : List Byte) :
    (c = Config.opReset ∧ decode (c :: rest) = .ok (.reset, rest)) ∨
    (∃ k : ParamCommand, k.opcode = c ∧ decode (c :: rest) = decodeParam k rest) ∨
    (c ≠ Config.opReset ∧ c ≠ Config.opSetReadPtr ∧ c ≠ Config.opChannelSelect ∧
      decode (c :: rest) = .ok (unknownInstr c, rest)) := by
  by_cases hreset : c = Config.opReset
  · subst hreset; exact .inl ⟨rfl, decode_reset rest⟩
  by_cases hparam : c = Config.opSetReadPtr ∨ c = Config.opChannelSelect
  · obtain ⟨k, rfl⟩ := (ParamCommand.exists_opcode_eq_iff c).2 hparam
    exact .inr (.inl ⟨k, rfl, decode_paramOpcode k rest⟩)
  · obtain ⟨hptr, hch⟩ := not_or.1 hparam
    exact .inr (.inr ⟨hreset, hptr, hch, decode_other rest hreset hptr hch⟩)

/-- The catch-all row is tried last, so outside the three implemented opcodes every byte 0 gets its own row (R66). -/
theorem unknownInstr_wellFormed {c : Byte} (hreset : c ≠ Config.opReset) (hptr : c ≠ Config.opSetReadPtr)
    (hch : c ≠ Config.opChannelSelect) : (unknownInstr c).WellFormed := by
  by_cases hlisted : c ∈ listedOpcodes
  · simp only [listedOpcodes, List.mem_cons, List.not_mem_nil, hreset, hptr, hch, false_or, or_false] at hlisted
    rcases hlisted with rfl | rfl | rfl | rfl | rfl | rfl <;> rfl
  · have hrow : unknownInstr c = .unknown c := by
      simp only [listedOpcodes, List.mem_cons, not_or] at hlisted
      simp [unknownInstr, hlisted]
    rw [hrow]
    exact decide_eq_true hlisted

@[simp] theorem encode_unknownInstr (c : Byte) : encode (unknownInstr c) = [c] := by
  rw [encode, unknownInstr_opcode, unknownInstr_params]

/-- Decoding is sound: it answers a command, and that command's bytes and the trailing ones are the input. -/
theorem wellFormed_and_eq_encode_of_decode_eq_ok {bytes trailing : List Byte} {i : Instr}
    (h : decode bytes = .ok (i, trailing)) : i.WellFormed ∧ bytes = encode i ++ trailing := by
  cases bytes with
  | nil => exact nomatch h
  | cons c rest =>
    obtain ⟨rfl, hd⟩ | ⟨k, rfl, hd⟩ | ⟨hreset, hptr, hch, hd⟩ := decode_cons_cases c rest
    · obtain ⟨rfl, rfl⟩ := Prod.mk.inj (Except.ok.inj (hd.symm.trans h))
      exact ⟨rfl, rfl⟩
    · cases rest with
      | nil => exact nomatch hd.symm.trans h
      | cons p rest =>
        obtain ⟨rfl, rfl⟩ := Prod.mk.inj (Except.ok.inj (hd.symm.trans h))
        exact ⟨k.withParam_wellFormed p, by simp⟩
    · obtain ⟨rfl, rfl⟩ := Prod.mk.inj (Except.ok.inj (hd.symm.trans h))
      exact ⟨unknownInstr_wellFormed hreset hptr hch, by simp⟩

/-- A format CP opcode is complete exactly when a further byte is there (R52, R58). -/
theorem decode_paramOpcode_isOk (k : ParamCommand) (rest : List Byte) :
    (decode (k.opcode :: rest)).isOk = !rest.isEmpty := by
  rw [decode_paramOpcode]
  cases rest <;> rfl

/-- Every other byte 0 is a complete command by itself (R51, R56). -/
theorem decode_isOk_of_not_paramOpcode {c : Byte} (h : ¬ ∃ k : ParamCommand, k.opcode = c) (rest : List Byte) :
    (decode (c :: rest)).isOk = true := by
  obtain ⟨-, hd⟩ | ⟨k, hk, -⟩ | ⟨-, -, -, hd⟩ := decode_cons_cases c rest
  · rw [hd]; rfl
  · exact absurd ⟨k, hk⟩ h
  · rw [hd]; rfl

/-- A command is as long as its byte 0 says (R50). -/
theorem encode_length_of_wellFormed {i : Instr} (h : i.WellFormed) : (encode i).length = commandLength i.opcode := by
  cases i with
  | reset => exact (Laws.Format.reset h).2
  | setReadPtr p => exact (Laws.Format.setReadPtr p h).2
  | channelSelect p => exact (Laws.Format.channelSelect p h).2
  | unkD2 => exact (Laws.Format.unkD2 h).2
  | unkB4 => exact (Laws.Format.unkB4 h).2
  | unk87 => exact (Laws.Format.unk87 h).2
  | unkA5 => exact (Laws.Format.unkA5 h).2
  | unk96 => exact (Laws.Format.unk96 h).2
  | unk78 => exact (Laws.Format.unk78 h).2
  | unknown c => exact (Laws.Format.unknown c h).2

namespace Machine

/-- A `Tick` runs a format CP command on slot 1 as it stands, once that byte is there (R53, R90). -/
theorem tick_of_paramOpcode {s : State} (k : ParamCommand) (hfill : 2 ≤ s.fill.val) (hop : s.slotByte 0 = k.opcode) :
    tick s = exec (k.withParam (s.slotByte 1)) s := by
  have hd : decode s.fetchWindow = .ok (k.withParam (s.slotByte 1), []) := by
    rw [State.fetchWindow_two hfill, hop, decode_paramOpcode, decodeParam_cons]
  simp [tick, hd]

/-- The step that delivers that `Tick`. -/
theorem step_of_tick_paramOpcode {s : State} {es : List Event} (k : ParamCommand) (hp : s.pending = .tick :: es)
    (hfill : 2 ≤ s.fill.val) (hop : s.slotByte 0 = k.opcode) :
    step s = exec (k.withParam (s.slotByte 1)) (s.withPending es) :=
  (step_of_event hp).trans (tick_of_paramOpcode k hfill hop)

/-- One byte per read, and through the status selector it is `status` (R62, R111). -/
theorem rdReq_returned (s : State) :
    ∃ b, (rdReq s).returned = s.returned ++ [b] ∧ (s.readPointer = Config.selStatus → b = s.status) := by
  obtain ⟨-, h⟩ | ⟨hptr, h⟩ := rdReq_cases s
  · exact ⟨s.status, by simp [h], fun _ => rfl⟩
  · exact ⟨s.nextDraw, by simp [h], fun hsel => absurd hsel hptr⟩

end Machine

/-- Settles O9: the `Tick` runs the register command on slot 1, and the command writes its parameter as it stands. -/
theorem parameterIsTakenWhole : Obligations.ParameterIsTakenWhole := by
  intro s es hp hfill
  constructor
  · intro hop
    exact ⟨_, Machine.step_of_tick_paramOpcode .setReadPtr hp hfill hop, rfl⟩
  · intro hop
    exact ⟨_, Machine.step_of_tick_paramOpcode .channelSelect hp hfill hop, rfl⟩

/-- Settles O13: the decoder's soundness fixes the opcode, since an encoding begins with it, and so the length; completeness is by
the kind of byte 0. -/
theorem byteZeroSelectsFormat : Obligations.ByteZeroSelectsFormat := by
  intro c bytes
  refine ⟨fun i trailing h => ?_, fun hparam => ?_, fun hother => ?_⟩
  · obtain ⟨hwf, hbytes⟩ := wellFormed_and_eq_encode_of_decode_eq_ok h
    obtain rfl : c = i.opcode := (List.cons.inj hbytes).1
    exact ⟨hwf, rfl, hbytes, encode_length_of_wellFormed hwf⟩
  · obtain ⟨k, rfl⟩ := (ParamCommand.exists_opcode_eq_iff c).2 hparam
    exact decode_paramOpcode_isOk k bytes
  · exact decode_isOk_of_not_paramOpcode (mt (ParamCommand.exists_opcode_eq_iff c).1 hother) bytes

/-- Settles O20: the step is the read, which answers one byte; the invariant gives the two values of `status`. -/
theorem everyReadAnswersOneByte : Obligations.EveryReadAnswersOneByte := by
  intro s es hinv hp
  obtain ⟨b, hret, hstatus⟩ := Machine.rdReq_returned (s.withPending es)
  refine ⟨_, b, Machine.step_of_event hp, hret, fun hptr => ?_⟩
  obtain rfl : b = s.status := hstatus hptr
  exact ⟨rfl, hinv.statusValue⟩

end Sys2Proof

/-! ## The read responder: the statements of 43_read_responder.md -/

namespace Sys2Proof

/-- A read through the status selector answers `status` and sets the idle baseline (R111). -/
theorem Machine.rdReq_of_selStatus {s : State} (hptr : s.readPointer = Config.selStatus) :
    rdReq s = ((s.withStatus Config.statusIdle).answer s.status).emit (.statusRead s.status) := by
  obtain ⟨-, hread⟩ | ⟨hother, -⟩ := rdReq_cases s
  · exact hread
  · exact absurd hptr hother

/-- Settles O18: the step delivers the read, and the read goes through the status selector. -/
theorem statusReadReturnsAndClears : Obligations.StatusReadReturnsAndClears := by
  intro s es hp hptr
  have hread := Machine.rdReq_of_selStatus (s := s.withPending es) hptr
  exact (Machine.step_of_event hp).trans (congrArg Host.Outcome.next hread)

end Sys2Proof

/-! ## Events and runs

`afterEvent` names the state that an event leads to, so that a run is a fold; `EventBlind` says what a relation between two
states needs for no event to tell them apart. -/

namespace Sys2Proof.Machine

/-! ### The state after an event -/

/-- `RxByte` by its three tests: skipped, full, 0xF0 at index 0 (R76, R77). -/
theorem rxByte_eq_ite (b : Byte) (s : State) : rxByte b s =
    if s.rxSkip = true then s.emit (.rx b)
    else if s.fill.val = Config.fillMax then (s.emit (.rx b)).emit (.overflow b)
    else if s.fill = 0 ∧ b = Config.opReset then ((s.emit (.rx b)).store b).doReset
    else (s.emit (.rx b)).store b := by
  obtain ⟨hs, h⟩ | ⟨hs, hf, h⟩ | ⟨hs, hf, hb, h⟩ | ⟨hs, hf, hb, h⟩ := rxByte_cases b s
  · rw [h, if_pos hs]
  · simp [h, hs, hf]
  · rw [h, if_neg (by simp [hs]), if_neg (by simp [hf]), if_pos ⟨hf, hb⟩]
  · rw [h, if_neg (by simp [hs]), if_neg hf.ne, if_neg hb]

theorem tick_of_decode_ok {s : State} {i : Instr} {rest : List Byte} (h : decode s.fetchWindow = .ok (i, rest)) :
    tick s = exec i s := by
  simp [tick, h]

theorem tick_of_emptyBuffer {s : State} (h : decode s.fetchWindow = .error .emptyBuffer) : tick s = .next s := by
  simp [tick, h]

theorem tick_of_parameterMissing {s : State} {c : ParamCommand} (h : decode s.fetchWindow = .error (.parameterMissing c)) :
    tick s = .next (s.await c) := by
  simp [tick, h]

theorem tick_answers (s : State) : ∃ t, tick s = .next t := by
  obtain ⟨-, h⟩ | ⟨-, -, h⟩ | ⟨-, -, h⟩ | ⟨-, -, h⟩ | ⟨c, -, -, h⟩ | ⟨-, -, -, -, h⟩ := tick_cases s <;> exact ⟨_, h⟩

theorem deliver_answers (e : Event) (s : State) : ∃ t, deliver e s = .next t := by
  cases e with
  | powerOn => exact ⟨_, rfl⟩
  | rxStart => exact ⟨_, rfl⟩
  | rxByte b => exact ⟨_, rfl⟩
  | rdReq => exact ⟨_, rfl⟩
  | tick => exact tick_answers s

/-- The state that an event leads to. -/
def afterEvent (e : Event) (s : State) : State :=
  match deliver e s with
  | .next t => t
  | .fault _ => s
  | .refused _ => s

theorem afterEvent_of_deliver {e : Event} {s t : State} (h : deliver e s = .next t) : afterEvent e s = t := by
  simp [afterEvent, h]

theorem deliver_eq_next (e : Event) (s : State) : deliver e s = .next (afterEvent e s) := by
  obtain ⟨t, h⟩ := deliver_answers e s
  rw [afterEvent_of_deliver h, h]

@[simp] theorem afterEvent_powerOn (s : State) : afterEvent .powerOn s = powerOn s := rfl
@[simp] theorem afterEvent_rxStart (s : State) : afterEvent .rxStart s = rxStart s := rfl
@[simp] theorem afterEvent_rxByte (b : Byte) (s : State) : afterEvent (.rxByte b) s = rxByte b s := rfl
@[simp] theorem afterEvent_rdReq (s : State) : afterEvent .rdReq s = rdReq s := rfl

theorem tick_eq_next (s : State) : tick s = .next (afterEvent .tick s) := deliver_eq_next .tick s

@[simp] theorem afterEvent_pending (e : Event) (s : State) : (afterEvent e s).pending = s.pending :=
  deliver_pending (deliver_eq_next e s)

/-- The state after a sequence of events, delivered in order (R38). -/
def afterEvents : List Event → State → State
  | [], s => s
  | e :: es, s => afterEvents es (afterEvent e s)

@[simp] theorem afterEvents_nil (s : State) : afterEvents [] s = s := rfl

@[simp] theorem afterEvents_cons (e : Event) (es : List Event) (s : State) :
    afterEvents (e :: es) s = afterEvents es (afterEvent e s) := rfl

theorem afterEvents_append (es fs : List Event) (s : State) :
    afterEvents (es ++ fs) s = afterEvents fs (afterEvents es s) := by
  induction es generalizing s with
  | nil => rfl
  | cons e es ih => exact ih (afterEvent e s)

@[simp] theorem afterEvents_pending (es : List Event) (s : State) : (afterEvents es s).pending = s.pending := by
  induction es generalizing s with
  | nil => rfl
  | cons e es ih => rw [afterEvents_cons, ih, afterEvent_pending]

theorem deliverAll_eq_next (es : List Event) (s : State) : deliverAll es s = .next (afterEvents es s) := by
  induction es generalizing s with
  | nil => rfl
  | cons e es ih => simp only [deliverAll, deliver_eq_next, afterEvents_cons, ih]

/-! ### Relations that no event can tell apart -/

/-- What a relation between states needs so that every event leads related states to related ones: equal command bytes in view, and
the relation kept by each event function, by each command and by the wait. -/
structure EventBlind (R : State → State → Prop) : Prop where
  window {s s' : State} : R s s' → s'.fetchWindow = s.fetchWindow
  powerOn {s s' : State} : R s s' → R (powerOn s) (powerOn s')
  rxStart {s s' : State} : R s s' → R (rxStart s) (rxStart s')
  rxByte {s s' : State} (b : Byte) : R s s' → R (rxByte b s) (rxByte b s')
  rdReq {s s' : State} : R s s' → R (rdReq s) (rdReq s')
  await {s s' : State} (c : ParamCommand) : R s s' → R (s.await c) (s'.await c)
  exec {s s' t : State} (i : Instr) : R s s' → exec i s = .next t → ∃ t', exec i s' = .next t' ∧ R t t'

/-- The only thing a `Tick` reads is the window, so related states take the same arm. -/
theorem EventBlind.tick {R : State → State → Prop} (hR : EventBlind R) {s s' t : State} (hs : R s s') (h : tick s = .next t) :
    ∃ t', tick s' = .next t' ∧ R t t' := by
  have hw := hR.window hs
  rcases hd : decode s.fetchWindow with (_ | c) | ⟨i, rest⟩
  · obtain rfl := Host.Outcome.next.inj ((tick_of_emptyBuffer hd).symm.trans h)
    exact ⟨s', tick_of_emptyBuffer (hw ▸ hd), hs⟩
  · obtain rfl := Host.Outcome.next.inj ((tick_of_parameterMissing hd).symm.trans h)
    exact ⟨s'.await c, tick_of_parameterMissing (hw ▸ hd), hR.await c hs⟩
  · obtain ⟨t', ht', hR'⟩ := hR.exec i hs ((tick_of_decode_ok hd).symm.trans h)
    exact ⟨t', (tick_of_decode_ok (hw ▸ hd)).trans ht', hR'⟩

/-- Two states with equal `rx_skip` and `fill` meet an `RxByte` in the same way. -/
theorem rxByte_related {R : State → State → Prop} {s s' : State} (b : Byte) (hskip : s'.rxSkip = s.rxSkip)
    (hfill : s'.fill = s.fill) (skipped : R (s.emit (.rx b)) (s'.emit (.rx b)))
    (dropped : R ((s.emit (.rx b)).emit (.overflow b)) ((s'.emit (.rx b)).emit (.overflow b)))
    (reset : R ((s.emit (.rx b)).store b).doReset ((s'.emit (.rx b)).store b).doReset)
    (stored : R ((s.emit (.rx b)).store b) ((s'.emit (.rx b)).store b)) : R (rxByte b s) (rxByte b s') := by
  rw [rxByte_eq_ite b s, rxByte_eq_ite b s', hskip, hfill]
  split_ifs
  · exact skipped
  · exact dropped
  · exact reset
  · exact stored

/-- Two states with equal `read_pointer` answer an `RdReq` in the same way. -/
theorem rdReq_related {R : State → State → Prop} {s s' : State} (hptr : s'.readPointer = s.readPointer)
    (status : R (((s.withStatus Config.statusIdle).answer s.status).emit (.statusRead s.status))
      (((s'.withStatus Config.statusIdle).answer s'.status).emit (.statusRead s'.status)))
    (other : R ((s.countDraw.answer s.nextDraw).emit (.unsupportedRead s.readPointer))
      ((s'.countDraw.answer s'.nextDraw).emit (.unsupportedRead s'.readPointer))) : R (rdReq s) (rdReq s') := by
  obtain ⟨hs, h⟩ | ⟨hs, h⟩ := rdReq_cases s
  · obtain ⟨-, h'⟩ | ⟨hs', -⟩ := rdReq_cases s'
    · rwa [h, h']
    · exact absurd (hptr.trans hs) hs'
  · obtain ⟨hs', -⟩ | ⟨-, h'⟩ := rdReq_cases s'
    · exact absurd (hptr.symm.trans hs') hs
    · rwa [h, h']

/-- Two states meet a command in the same way: RESET, SET_READ_PTR, CHANNEL_SELECT, or the unknown outcome. -/
theorem exec_related {R : State → State → Prop} {s s' t : State} {i : Instr} (reset : R s.doReset s'.doReset)
    (setReadPtr : ∀ p, R ((s.setReadPointer p).emit (.cmdSetReadPtr p)).consume ((s'.setReadPointer p).emit (.cmdSetReadPtr p)).consume)
    (channelSelect : ∀ p, R ((s.setChannel p).emit (.cmdChannelSelect p)).consume
      ((s'.setChannel p).emit (.cmdChannelSelect p)).consume)
    (unknown : ∀ c, R (s.unknownOutcome c) (s'.unknownOutcome c)) (h : exec i s = .next t) :
    ∃ t', exec i s' = .next t' ∧ R t t' := by
  cases i with
  | reset => cases h; exact ⟨_, rfl, reset⟩
  | setReadPtr p => cases h; exact ⟨_, rfl, setReadPtr p⟩
  | channelSelect p => cases h; exact ⟨_, rfl, channelSelect p⟩
  | _ => cases h; exact ⟨_, rfl, unknown _⟩

theorem EventBlind.afterEvent {R : State → State → Prop} (hR : EventBlind R) (e : Event) {s s' : State} (hs : R s s') :
    R (afterEvent e s) (afterEvent e s') := by
  cases e with
  | powerOn => exact hR.powerOn hs
  | rxStart => exact hR.rxStart hs
  | rxByte b => exact hR.rxByte b hs
  | rdReq => exact hR.rdReq hs
  | tick =>
    obtain ⟨t', ht', h⟩ := hR.tick hs (tick_eq_next s)
    rwa [afterEvent_of_deliver (e := .tick) ht']

/-- A relation that also fixes what is pending is kept by runs of any length. -/
theorem EventBlind.run {R : State → State → Prop} (hR : EventBlind R) (hpending : ∀ s s', R s s' → s'.pending = s.pending)
    (hwith : ∀ es s s', R s s' → R (s.withPending es) (s'.withPending es)) (k : Nat) {s s' t : State} (hs : R s s')
    (h : Sys2Proof.core.run k s = .next t) : ∃ t', Sys2Proof.core.run k s' = .next t' ∧ R t t' := by
  induction k generalizing s s' with
  | zero => obtain rfl := Host.Outcome.next.inj h; exact ⟨s', rfl, hs⟩
  | succ k ih =>
    cases hp : s.pending with
    | nil =>
      rw [run_succ k (step_of_none hp)] at h
      rw [run_succ k (step_of_none ((hpending s s' hs).trans hp))]
      exact ih hs h
    | cons e es =>
      rw [run_cons k hp (deliver_eq_next e _)] at h
      rw [run_cons k ((hpending s s' hs).trans hp) (deliver_eq_next e _)]
      exact ih (hR.afterEvent e (hwith es s s' hs)) h

/-! ### What is pending is read by a step alone -/

theorem eventBlind_withPending (es : List Event) : EventBlind (fun s s' => s' = s.withPending es) where
  window := by rintro s _ rfl; rfl
  powerOn := by rintro s _ rfl; rfl
  rxStart := by rintro s _ rfl; rfl
  rxByte := by rintro s _ b rfl; exact rxByte_related (R := fun s s' => s' = s.withPending es) b rfl rfl rfl rfl rfl rfl
  rdReq := by rintro s _ rfl; exact rdReq_related (R := fun s s' => s' = s.withPending es) rfl rfl rfl
  await := by rintro s _ c rfl; rfl
  exec := by
    rintro s _ t i rfl h
    exact exec_related (R := fun s s' => s' = s.withPending es) rfl (fun _ => rfl) (fun _ => rfl) (fun _ => rfl) h

theorem afterEvent_withPending (e : Event) (es : List Event) (s : State) :
    afterEvent e (s.withPending es) = (afterEvent e s).withPending es :=
  (eventBlind_withPending es).afterEvent e rfl

/-- A run over pending events is the fold of the events (R38). -/
theorem run_eq_afterEvents {events later : List Event} {s : State} (h : s.pending = events ++ later) :
    Sys2Proof.core.run events.length s = .next (afterEvents events (s.withPending later)) := by
  induction events generalizing s with
  | nil => rw [List.length_nil, run_zero, afterEvents_nil, State.withPending, ← List.nil_append later, ← h]
  | cons e es ih =>
    rw [List.length_cons, run_cons es.length h (deliver_eq_next e _), ih (by simp), afterEvents_cons]
    simp only [afterEvent_withPending]
    rfl

end Sys2Proof.Machine

namespace Sys2Proof

namespace Machine

/-! ### What cannot be seen: the selected channel, the cursor and `disp`, the slots from index 2 on -/

/-- `s'` is `s` but for the channel. -/
def DifferInChannel (s s' : State) : Prop := ∃ ch, s' = { s with selectedChannel := ch }

theorem eventBlind_differInChannel : EventBlind DifferInChannel where
  window := by rintro s _ ⟨ch, rfl⟩; rfl
  powerOn := by rintro s _ ⟨ch, rfl⟩; exact ⟨Config.chReset, rfl⟩
  rxStart := by rintro s _ ⟨ch, rfl⟩; exact ⟨ch, rfl⟩
  rxByte := by rintro s _ b ⟨ch, rfl⟩; exact rxByte_related b rfl rfl ⟨ch, rfl⟩ ⟨ch, rfl⟩ ⟨ch, rfl⟩ ⟨ch, rfl⟩
  rdReq := by rintro s _ ⟨ch, rfl⟩; exact rdReq_related rfl ⟨ch, rfl⟩ ⟨ch, rfl⟩
  await := by rintro s _ c ⟨ch, rfl⟩; exact ⟨ch, rfl⟩
  exec := by
    rintro s _ t i ⟨ch, rfl⟩ h
    exact exec_related ⟨ch, rfl⟩ (fun _ => ⟨ch, rfl⟩) (fun p => ⟨p, rfl⟩) (fun _ => ⟨ch, rfl⟩) h

/-- `s'` is `s` but for the cursor and the Dispatcher's state. -/
def DifferInCursorAndDisp (s s' : State) : Prop := ∃ cursor d, s' = { s with rdCur := cursor, disp := d }

theorem eventBlind_differInCursorAndDisp : EventBlind DifferInCursorAndDisp where
  window := by rintro s _ ⟨c, d, rfl⟩; rfl
  powerOn := by rintro s _ ⟨c, d, rfl⟩; exact ⟨0, .idle, rfl⟩
  rxStart := by rintro s _ ⟨c, d, rfl⟩; exact ⟨0, .idle, rfl⟩
  rxByte := by
    rintro s _ b ⟨c, d, rfl⟩
    exact rxByte_related b rfl rfl ⟨c, d, rfl⟩ ⟨c, d, rfl⟩ ⟨0, .idle, rfl⟩ ⟨c, d, rfl⟩
  rdReq := by rintro s _ ⟨c, d, rfl⟩; exact rdReq_related rfl ⟨c, d, rfl⟩ ⟨c, d, rfl⟩
  await := by rintro s _ k ⟨c, d, rfl⟩; exact ⟨1, .awaitParam k, rfl⟩
  exec := by
    rintro s _ t i ⟨c, d, rfl⟩ h
    exact exec_related ⟨0, .idle, rfl⟩ (fun _ => ⟨0, .idle, rfl⟩) (fun _ => ⟨0, .idle, rfl⟩) (fun _ => ⟨0, .idle, rfl⟩) h

/-- `s'` is `s` but for the buffer, and the buffers agree on the two slots a command is read from. -/
def DifferInTrailingSlots (s s' : State) : Prop :=
  ∃ m : Memory, s' = { s with buf := m } ∧ m.read? 0 = s.buf.read? 0 ∧ m.read? 1 = s.buf.read? 1

/-- Buffers that agree at an index agree there after equal writes. -/
theorem Memory.read?_write_congr {m m' : Memory} {i : Nat} (h : m'.read? i = m.read? i) (a : Nat) (b : Byte) :
    (m'.write a b).read? i = (m.write a b).read? i := by
  by_cases hi : i = a
  · subst hi; rw [read?_write_self, read?_write_self]
  · rw [read?_write_other _ _ hi, read?_write_other _ _ hi, h]

theorem eventBlind_differInTrailingSlots : EventBlind DifferInTrailingSlots where
  window := by
    rintro s _ ⟨m, rfl, h0, h1⟩
    simp [State.fetchWindow, State.firstCommandByte?, State.parameter?, State.hasParameterAt, State.slotByte, h0, h1]
  powerOn := by rintro s _ ⟨m, rfl, -, -⟩; exact ⟨[], rfl, rfl, rfl⟩
  rxStart := by rintro s _ ⟨m, rfl, h⟩; exact ⟨m, rfl, h⟩
  rxByte := by
    rintro s _ b ⟨m, rfl, h⟩
    have hstore := h.imp (Memory.read?_write_congr · s.fill.val b) (Memory.read?_write_congr · s.fill.val b)
    exact rxByte_related b rfl rfl ⟨m, rfl, h⟩ ⟨m, rfl, h⟩ ⟨_, rfl, hstore⟩ ⟨_, rfl, hstore⟩
  rdReq := by rintro s _ ⟨m, rfl, h⟩; exact rdReq_related rfl ⟨m, rfl, h⟩ ⟨m, rfl, h⟩
  await := by rintro s _ c ⟨m, rfl, h⟩; exact ⟨m, rfl, h⟩
  exec := by
    rintro s _ t i ⟨m, rfl, h⟩ ht
    exact exec_related ⟨m, rfl, h⟩ (fun _ => ⟨m, rfl, h⟩) (fun _ => ⟨m, rfl, h⟩) (fun _ => ⟨m, rfl, h⟩) ht

end Machine

/-- Settles O47: no event reads the channel, and only CHANNEL_SELECT and `PowerOn` overwrite it. -/
theorem channelIsInvisible : Obligations.ChannelIsInvisible := by
  intro k s t ch h
  obtain ⟨_, ht', ch', rfl⟩ := Machine.eventBlind_differInChannel.run
    (by rintro s _ ⟨ch, rfl⟩; rfl) (by rintro es s _ ⟨ch, rfl⟩; exact ⟨ch, rfl⟩) k ⟨ch, rfl⟩ h
  exact ⟨ch', ht'⟩

/-- Settles O48: a `Tick` decides from the window alone, and no other event reads the cursor or `disp`. -/
theorem cursorAndDispAreUnobservable : Obligations.CursorAndDispAreUnobservable := by
  intro k s t cursor d h
  obtain ⟨_, ht', cursor', d', rfl⟩ := Machine.eventBlind_differInCursorAndDisp.run
    (by rintro s _ ⟨c, d, rfl⟩; rfl) (by rintro es s _ ⟨c, d, rfl⟩; exact ⟨c, d, rfl⟩) k ⟨cursor, d, rfl⟩ h
  exact ⟨cursor', d', ht'⟩

/-- Settles O49: the window is made of slots 0 and 1, and equal writes keep the agreement on them. -/
theorem trailingSlotsAreNeverRead : Obligations.TrailingSlotsAreNeverRead := by
  intro k s t m h0 h1 h
  obtain ⟨_, ht', m', rfl, hm'⟩ := Machine.eventBlind_differInTrailingSlots.run
    (by rintro s _ ⟨m, rfl, -⟩; rfl) (by rintro es s _ ⟨m, rfl, h⟩; exact ⟨m, rfl, h⟩) k ⟨m, rfl, h0, h1⟩ h
  exact ⟨m', ht', hm'⟩

/-! ### Decoding inverts encoding -/

/-- A byte 0 with no row of its own is the catch-all row (R66). -/
theorem unknownInstr_eq_unknown {c : Byte} (h : c ∉ listedOpcodes) : unknownInstr c = .unknown c := by
  simp only [listedOpcodes, List.mem_cons, not_or] at h
  simp [unknownInstr, h]

/-- Settles O12: by the constructor; the catch-all row is reached because its byte is none of the nine listed. -/
theorem decodeInvertsEncode : Obligations.DecodeInvertsEncode := by
  intro i trailing hwf
  cases i with
  | reset => exact decode_reset trailing
  | setReadPtr p => exact decode_setReadPtr (p :: trailing)
  | channelSelect p => exact decode_channelSelect (p :: trailing)
  | unkD2 => rfl
  | unkB4 => rfl
  | unk87 => rfl
  | unkA5 => rfl
  | unk96 => rfl
  | unk78 => rfl
  | unknown c =>
    have hc : c ∉ listedOpcodes := of_decide_eq_true hwf
    have hother := hc
    simp only [listedOpcodes, List.mem_cons, not_or] at hother
    obtain ⟨hreset, hptr, hch, -⟩ := hother
    rw [← unknownInstr_eq_unknown hc, encode_unknownInstr]
    exact decode_other trailing hreset hptr hch

end Sys2Proof

/-! ## What each event can do, as a case analysis of `afterEvent` -/

namespace Sys2Proof.Machine

/-- A `Tick` by its six outcomes (R90). -/
theorem afterTick_cases (s : State) :
    (s.fill.val = 0 ∧ afterEvent .tick s = s) ∨
    (1 ≤ s.fill.val ∧ s.slotByte 0 = Config.opReset ∧ afterEvent .tick s = s.doReset) ∨
    (2 ≤ s.fill.val ∧ s.slotByte 0 = Config.opSetReadPtr ∧
      afterEvent .tick s = ((s.setReadPointer (s.slotByte 1)).emit (.cmdSetReadPtr (s.slotByte 1))).consume) ∨
    (2 ≤ s.fill.val ∧ s.slotByte 0 = Config.opChannelSelect ∧
      afterEvent .tick s = ((s.setChannel (s.slotByte 1)).emit (.cmdChannelSelect (s.slotByte 1))).consume) ∨
    (∃ c : ParamCommand, s.fill.val = 1 ∧ s.slotByte 0 = c.opcode ∧ afterEvent .tick s = s.await c) ∨
    (1 ≤ s.fill.val ∧ s.slotByte 0 ≠ Config.opReset ∧ s.slotByte 0 ≠ Config.opSetReadPtr ∧
      s.slotByte 0 ≠ Config.opChannelSelect ∧ afterEvent .tick s = s.unknownOutcome (s.slotByte 0)) := by
  simpa only [tick_eq_next, Host.Outcome.next.injEq] using tick_cases s

/-- A step does nothing, or is the oldest pending event (R36; log 2). -/
theorem step_cases {s t : State} (h : step s = .next t) :
    (s.pending = [] ∧ t = s) ∨ ∃ e es, s.pending = e :: es ∧ t = afterEvent e (s.withPending es) := by
  cases hp : s.pending with
  | nil => exact .inl ⟨rfl, Host.Outcome.next.inj (h.symm.trans (step_of_none hp))⟩
  | cons e es =>
    exact .inr ⟨e, es, rfl, Host.Outcome.next.inj (h.symm.trans ((step_of_event hp).trans (deliver_eq_next e _)))⟩

/-- A step with `e` oldest. -/
theorem step_eq_afterEvent {s : State} {e : Event} {es : List Event} (h : s.pending = e :: es) :
    step s = .next (afterEvent e (s.withPending es)) :=
  (step_of_event h).trans (deliver_eq_next e _)

/-! ### The invariant, by operation -/

/-- The invariant speaks of the buffer, the counters, `disp` and `status` alone. -/
theorem State.Inv.congr {s t : State} (h : s.Inv) (hbuf : t.buf = s.buf) (hfill : t.fill = s.fill) (hcur : t.rdCur = s.rdCur)
    (hskip : t.rxSkip = s.rxSkip) (hdisp : t.disp = s.disp) (hstatus : t.status = s.status) : t.Inv where
  bufWf := hbuf ▸ h.bufWf
  slot15Free := hbuf ▸ h.slot15Free
  validStored := by rw [hbuf, hfill]; exact h.validStored
  statusValue := hstatus ▸ h.statusValue
  fillNoSkip := by rw [hfill, hskip]; exact h.fillNoSkip
  fillNotReset := by rw [hfill, hbuf]; exact h.fillNotReset
  idleCursor := by rw [hdisp, hcur]; exact h.idleCursor
  awaitCursor := by rw [hdisp, hfill, hcur, hbuf]; exact h.awaitCursor

/-- An empty buffer with `Idle` and the cursor at 0 asks little more: this is the state after `PowerOn`, `RxStart` and `consume()`. -/
theorem inv_of_empty {t : State} (hwf : t.buf.wf) (hfree : t.buf.read? Config.fillMax = none)
    (hstatus : t.status = Config.statusIdle ∨ t.status = Config.statusReset) (hfill : t.fill = 0) (hcur : t.rdCur = 0)
    (hdisp : t.disp = .idle) : t.Inv where
  bufWf := hwf
  slot15Free := hfree
  validStored := fun i hi => by simp [hfill] at hi
  statusValue := hstatus
  fillNoSkip := fun hne => absurd hfill hne
  fillNotReset := fun hne => absurd hfill hne
  idleCursor := fun _ => hcur
  awaitCursor := fun c hc => nomatch hdisp.symm.trans hc

theorem State.Inv.withPending {s : State} (h : s.Inv) (es : List Event) : (s.withPending es).Inv :=
  h.congr rfl rfl rfl rfl rfl rfl

theorem State.Inv.emit {s : State} (h : s.Inv) (r : Diag) : (s.emit r).Inv := h.congr rfl rfl rfl rfl rfl rfl

theorem State.Inv.consume {s : State} (h : s.Inv) : s.consume.Inv :=
  inv_of_empty h.bufWf h.slot15Free h.statusValue rfl rfl rfl

theorem State.Inv.withStatusIdle {s : State} (h : s.Inv) : (s.withStatus Config.statusIdle).Inv where
  bufWf := h.bufWf
  slot15Free := h.slot15Free
  validStored := h.validStored
  statusValue := .inl rfl
  fillNoSkip := h.fillNoSkip
  fillNotReset := h.fillNotReset
  idleCursor := h.idleCursor
  awaitCursor := h.awaitCursor

/-- RESET needs of the state before only that the buffer is in order. -/
theorem inv_doReset {s : State} (hwf : s.buf.wf) (hfree : s.buf.read? Config.fillMax = none) : s.doReset.Inv :=
  inv_of_empty hwf hfree (.inr rfl) rfl rfl rfl

theorem inv_powerOn (s : State) : (powerOn s).Inv := inv_of_empty Memory.wf_nil rfl (.inl rfl) rfl rfl rfl

/-- Under the invariant slot 0 of a non-empty buffer has been stored to. -/
theorem State.Inv.read?_zero {s : State} (h : s.Inv) (hfill : 1 ≤ s.fill.val) : s.buf.read? 0 = some (s.slotByte 0) := by
  obtain ⟨b, hb⟩ := Option.isSome_iff_exists.1 (h.validStored 0 hfill)
  rw [State.slotByte_of_read? hb]
  exact hb

/-- Under the invariant no `Tick` meets 0xF0 at index 0 (R21, D18). -/
theorem State.Inv.slotByte_zero_ne {s : State} (h : s.Inv) (hfill : 1 ≤ s.fill.val) : s.slotByte 0 ≠ Config.opReset := by
  intro hreset
  refine h.fillNotReset (fun h0 => ?_) (hreset ▸ h.read?_zero hfill)
  rw [SlotIndex.eq_zero_iff] at h0
  omega

theorem State.Inv.await {s : State} (h : s.Inv) {c : ParamCommand} (hfill : s.fill.val = 1) (hop : s.slotByte 0 = c.opcode) :
    (s.await c).Inv where
  bufWf := h.bufWf
  slot15Free := h.slot15Free
  validStored := h.validStored
  statusValue := h.statusValue
  fillNoSkip := h.fillNoSkip
  fillNotReset := h.fillNotReset
  idleCursor := nofun
  awaitCursor := by
    rintro _ ⟨⟩
    exact ⟨fun h0 : s.fill = 0 => by simp [h0] at hfill, rfl, hop ▸ h.read?_zero hfill.ge⟩

/-- A store of a byte that is not 0xF0 at index 0. -/
theorem State.Inv.store {s : State} (h : s.Inv) {b : Byte} (hskip : s.rxSkip = false) (hroom : s.fill.val < Config.fillMax)
    (hb : ¬ (s.fill = 0 ∧ b = Config.opReset)) : (s.store b).Inv := by
  have hfill := State.store_fill_val b hroom
  have hslot0 : s.fill ≠ 0 → (s.store b).buf.read? 0 = s.buf.read? 0 := fun hne =>
    Memory.read?_write_other _ _ fun h0 => hne (Fin.ext h0.symm)
  have hnonempty : (s.store b).fill ≠ 0 := fun h0 => by rw [h0] at hfill; exact nomatch hfill
  refine ⟨Memory.wf_write h.bufWf s.fill.isLt b, ?_, fun i hi => ?_, h.statusValue, fun _ => hskip, fun _ => ?_, h.idleCursor,
    fun c hc => ?_⟩
  · exact (Memory.read?_write_other _ _ hroom.ne').trans h.slot15Free
  · by_cases hi' : i.val = s.fill.val
    · rw [State.store_buf, hi', Memory.read?_write_self]; rfl
    · rw [State.store_buf, Memory.read?_write_other _ _ hi']
      exact h.validStored i (by omega)
  · by_cases h0 : s.fill = 0
    · simpa [h0] using fun hreset => hb ⟨h0, hreset⟩
    · rw [hslot0 h0]; exact h.fillNotReset h0
  · obtain ⟨hne, hcur, hop⟩ := h.awaitCursor c hc
    exact ⟨hnonempty, hcur, (hslot0 hne).trans hop⟩

/-! ### The invariant, by event -/

theorem State.Inv.rxStart {s : State} (h : s.Inv) : (rxStart s).Inv :=
  inv_of_empty h.bufWf h.slot15Free h.statusValue rfl rfl rfl

theorem State.Inv.rxByte {s : State} (h : s.Inv) (b : Byte) : (rxByte b s).Inv := by
  obtain ⟨-, h'⟩ | ⟨-, -, h'⟩ | ⟨-, h0, -, h'⟩ | ⟨hskip, hroom, hb, h'⟩ := rxByte_cases b s <;> rw [h']
  · exact h.emit _
  · exact (h.emit _).emit _
  · refine inv_doReset (Memory.wf_write h.bufWf s.fill.isLt b) ((Memory.read?_write_other _ _ ?_).trans h.slot15Free)
    simp [h0]
  · exact (h.emit _).store hskip hroom hb

theorem State.Inv.rdReq {s : State} (h : s.Inv) : (rdReq s).Inv := by
  obtain ⟨-, h'⟩ | ⟨-, h'⟩ := rdReq_cases s <;> rw [h']
  · exact h.withStatusIdle.congr rfl rfl rfl rfl rfl rfl
  · exact h.congr rfl rfl rfl rfl rfl rfl

theorem State.Inv.tick {s : State} (h : s.Inv) : (afterEvent .tick s).Inv := by
  obtain ⟨-, h'⟩ | ⟨-, -, h'⟩ | ⟨-, -, h'⟩ | ⟨-, -, h'⟩ | ⟨c, hfill, hop, h'⟩ | ⟨-, -, -, -, h'⟩ := afterTick_cases s <;> rw [h']
  · exact h
  · exact inv_doReset h.bufWf h.slot15Free
  · exact h.consume.congr rfl rfl rfl rfl rfl rfl
  · exact h.consume.congr rfl rfl rfl rfl rfl rfl
  · exact h.await hfill hop
  · exact h.consume.congr rfl rfl rfl rfl rfl rfl

theorem State.Inv.afterEvent {s : State} (h : s.Inv) (e : Event) : (afterEvent e s).Inv := by
  cases e with
  | powerOn => exact inv_powerOn s
  | rxStart => exact h.rxStart
  | rxByte b => exact h.rxByte b
  | rdReq => exact h.rdReq
  | tick => exact h.tick

theorem State.Inv.step {s t : State} (h : s.Inv) (hstep : step s = .next t) : t.Inv := by
  obtain ⟨-, rfl⟩ | ⟨e, es, -, rfl⟩ := step_cases hstep
  · exact h
  · exact (h.withPending es).afterEvent e

theorem inv_reset : State.reset.Inv := inv_powerOn State.reset

theorem Reachable.inv {s : State} (h : Reachable s) : s.Inv := by
  induction h with
  | start es => exact inv_reset.withPending es
  | next _ hstep ih => exact ih.step hstep

end Sys2Proof.Machine

namespace Sys2Proof

open Machine

/-- Settles O28. -/
theorem resetMeetsInvariant : Obligations.ResetMeetsInvariant := inv_reset

/-- Settles O29: by the event that the step delivers, each event by the operations it is made of. -/
theorem stepKeepsInvariant : Obligations.StepKeepsInvariant := fun _ _ hinv hstep => hinv.step hstep

/-- Settles O30: the invariant of an empty buffer asks nothing of the state before `PowerOn`. -/
theorem powerOnEstablishesInvariant : Obligations.PowerOnEstablishesInvariant := fun s es hp =>
  ⟨_, step_eq_afterEvent hp, inv_powerOn (s.withPending es), rfl⟩

/-- Settles O31: the bits are those of the two values that the invariant allows. -/
theorem reachableStatusBits : Obligations.ReachableStatusBits := by
  intro s hs
  have hstatus := hs.inv.statusValue
  refine ⟨hstatus, ?_⟩
  obtain h | h := hstatus <;> simp only [State.statusHas, h] <;> decide

end Sys2Proof

/-! ## The commands and the decoder's bytes -/

namespace Sys2Proof

open Machine

/-- Settles O1. -/
theorem resetCompletes : Obligations.ResetCompletes := fun _ => rfl

/-- Settles O2. -/
theorem setReadPtrCompletes : Obligations.SetReadPtrCompletes := fun _ _ => rfl

/-- Settles O3. -/
theorem channelSelectCompletes : Obligations.ChannelSelectCompletes := fun _ _ => rfl

/-- Settles O4: each of the seven rows has the unknown outcome of its own byte. -/
theorem unknownCommandsComplete : Obligations.UnknownCommandsComplete := by
  intro s i c hrow
  simp only [List.mem_cons, Prod.mk.injEq, List.not_mem_nil, or_false] at hrow
  obtain ⟨rfl, rfl⟩ | ⟨rfl, rfl⟩ | ⟨rfl, rfl⟩ | ⟨rfl, rfl⟩ | ⟨rfl, rfl⟩ | ⟨rfl, rfl⟩ | ⟨rfl, -⟩ := hrow <;> rfl

/-- Settles O5: by the four outcomes that `exec` can have, each of which writes at most one register. -/
theorem commandsFrame : Obligations.CommandsFrame := by
  intro i s t h
  obtain ⟨rfl, rfl⟩ | ⟨p, rfl, rfl⟩ | ⟨p, rfl, rfl⟩ | ⟨-, rfl⟩ := exec_cases h
  · exact ⟨.inl rfl, .inl rfl, .inr rfl, fun _ => rfl, rfl, rfl, rfl, _, rfl⟩
  · exact ⟨.inr ⟨p, rfl⟩, .inl rfl, .inl rfl, fun _ => rfl, rfl, rfl, rfl, _, rfl⟩
  · exact ⟨.inl rfl, .inr ⟨p, rfl⟩, .inl rfl, fun _ => rfl, rfl, rfl, rfl, _, rfl⟩
  · exact ⟨.inl rfl, .inl rfl, .inl rfl, fun _ => rfl, rfl, rfl, rfl, _, rfl⟩

/-- Settles O11. -/
theorem writtenOutBytesDecode : Obligations.WrittenOutBytesDecode := ⟨rfl, rfl, rfl, rfl, rfl, rfl⟩

/-! ## A step, and the contract operations -/

/-- Settles O6. -/
theorem stepDeliversOldestEvent : Obligations.StepDeliversOldestEvent := fun _ =>
  ⟨fun _ _ hp => step_of_event hp, fun hp => step_of_none hp⟩

/-- Settles O7: the step is a `Tick`, whose window does not depend on what is pending; the decoder is sound. -/
theorem tickRunsDecodedCommand : Obligations.TickRunsDecodedCommand := fun s es _ _ hp hd =>
  ⟨(step_of_event hp).trans (tick_of_decode_ok (s := s.withPending es) hd), (wellFormed_and_eq_encode_of_decode_eq_ok hd).1⟩

/-- Settles O14. -/
theorem rxStartEmptiesAndRearms : Obligations.RxStartEmptiesAndRearms := fun _ _ hp => step_of_event hp

/-- Settles O19: the read goes through another pointer, so the byte is the next draw. -/
theorem unsupportedReadChangesNothing : Obligations.UnsupportedReadChangesNothing := by
  intro s es hp hptr
  obtain ⟨hsel, -⟩ | ⟨-, hread⟩ := rdReq_cases (s.withPending es)
  · exact absurd hsel hptr
  · exact ⟨s.nextDraw, (step_of_event hp).trans (congrArg Host.Outcome.next hread)⟩

/-- Settles O22. -/
theorem bufferContractOperations : Obligations.BufferContractOperations := by
  intro s
  refine ⟨⟨rfl, fun _ => rfl⟩, fun hfill => if_pos ((s.hasParameterAt_iff 0).2 hfill), fun hfill => if_neg ?_,
    s.hasParameterAt_iff, decide_eq_false ?_⟩
  · simp [hfill]
  · exact Nat.not_lt.2 (Nat.le_of_lt_succ s.fill.isLt)

/-- Settles O23: by the two outcomes of `append`. -/
theorem appendStoresOrDrops : Obligations.AppendStoresOrDrops := by
  intro s b
  obtain ⟨hfull, h⟩ | ⟨hroom, h⟩ := State.append_cases b s <;> rw [h]
  · exact ⟨fun _ => rfl, fun hroom => absurd hfull hroom.ne⟩
  · exact ⟨fun hfull => absurd hfull hroom.ne, fun _ => ⟨rfl, State.store_fill_val b hroom, State.store_slotByte_fill b s,
      fun _ ha => State.store_slotByte_other b s ha, rfl⟩⟩

/-- Settles O24. -/
theorem registerFileOperations : Obligations.RegisterFileOperations := fun _ _ => ⟨rfl, rfl, rfl, rfl, rfl⟩

/-- Settles O25: bitwise OR sets bits, and is idempotent. -/
theorem writeStatusFlagsOnlySets : Obligations.WriteStatusFlagsOnlySets := by
  intro s mask
  refine ⟨fun i => BitVec.getLsbD_or, rfl, ?_⟩
  simp [State.writeStatusFlags, State.withStatus, BitVec.or_assoc]

/-- Settles O26. -/
theorem resetValues : Obligations.ResetValues := ⟨rfl, rfl, rfl, rfl, rfl, rfl, rfl, rfl, rfl, rfl, rfl⟩

/-- Settles O27. -/
theorem powerOnRestoresResetValues : Obligations.PowerOnRestoresResetValues := fun s es hp =>
  (step_eq_afterEvent hp).trans (congrArg Host.Outcome.next (powerOn_eq_reset (s.withPending es)))

/-- Settles O32. -/
theorem everyStepAnswersNext : Obligations.EveryStepAnswersNext := by
  refine ⟨fun s => ?_, fun s e => deliver_answers e s⟩
  cases hp : s.pending with
  | nil => exact ⟨s, step_of_none hp⟩
  | cons e es => exact ⟨_, step_eq_afterEvent hp⟩

/-- Settles O40: both sides are the state after the events. -/
theorem runIsFoldOfEvents : Obligations.RunIsFoldOfEvents := by
  intro events later s t hp
  rw [run_eq_afterEvents hp, deliverAll_eq_next]
  rfl

/-! ## The Tick event: the statements of 42_dispatcher_commands.md -/

/-- Settles O8: each outcome of a `Tick` is one branch. -/
theorem tickByByteZero : Obligations.TickByByteZero := by
  intro s es hp
  rw [step_eq_afterEvent hp, exec_unknownInstr]
  obtain ⟨hf, h⟩ | ⟨hf, h0, h⟩ | ⟨hf, h0, h⟩ | ⟨hf, h0, h⟩ | ⟨c, hf, h0, h⟩ | ⟨hf, hreset, hptr, hch, h⟩ :=
    afterTick_cases (s.withPending es) <;> rw [h] <;> simp only [State.withPending_fill, State.withPending_slotByte] at *
  · rw [if_pos hf]; rfl
  · rw [if_neg (by omega), if_pos h0]; rfl
  · rw [if_neg (by omega), h0, if_neg (by decide), if_pos rfl, if_pos hf]; rfl
  · rw [if_neg (by omega), h0, if_neg (by decide), if_neg (by decide), if_pos rfl, if_pos hf]; rfl
  · cases c with
    | setReadPtr =>
      rw [if_neg (by omega), h0, if_neg (by decide), if_pos (by decide), if_neg (by omega)]; rfl
    | channelSelect =>
      rw [if_neg (by omega), h0, if_neg (by decide), if_neg (by decide), if_pos (by decide), if_neg (by omega)]; rfl
  · rw [if_neg (by omega), if_neg hreset, if_neg hptr, if_neg hch]; rfl

/-- Settles O10: every command answers, and the last branch of a `Tick` is the unknown outcome. -/
theorem unknownByteZeroOnlyConsumes : Obligations.UnknownByteZeroOnlyConsumes := by
  refine ⟨exec_answers, fun s es hp hfill hreset hptr hch => ?_⟩
  refine ⟨(s.withPending es).unknownOutcome (s.slotByte 0), ?_, rfl, rfl, rfl, rfl, rfl, rfl, rfl⟩
  rw [tickByByteZero s es hp, if_neg (by omega), if_neg hreset, if_neg hptr, if_neg hch, exec_unknownInstr]
  rfl

/-- Settles O38: by the outcomes of a `Tick`; where it does nothing, the invariant shuts a wait out. -/
theorem endOfTickLaw : Obligations.EndOfTickLaw := by
  intro s t hinv htick
  obtain rfl := afterEvent_of_deliver (e := .tick) htick
  obtain ⟨hf, h⟩ | ⟨-, -, h⟩ | ⟨-, -, h⟩ | ⟨-, -, h⟩ | ⟨c, hf, h0, h⟩ | ⟨-, -, -, -, h⟩ := afterTick_cases s <;> rw [h]
  · cases hd : s.disp with
    | idle => exact .inl ⟨hf, rfl⟩
    | awaitParam c => exact absurd (Fin.ext hf) (hinv.awaitCursor c hd).1
  · exact .inl ⟨rfl, rfl⟩
  · exact .inl ⟨rfl, rfl⟩
  · exact .inl ⟨rfl, rfl⟩
  · exact .inr ⟨hf, c, rfl, rfl, h0⟩
  · exact .inl ⟨rfl, rfl⟩

/-- A `Tick` on an empty buffer (R104, D18). -/
theorem Machine.afterTick_of_empty {s : State} (hf : s.fill.val = 0) : afterEvent .tick s = s :=
  afterEvent_of_deliver (e := .tick) (tick_of_emptyBuffer (by rw [State.fetchWindow_empty hf, decode_nil]))

/-- A `Tick` on a format CP opcode alone waits (R102). -/
theorem Machine.afterTick_of_paramOpcode_alone {s : State} {c : ParamCommand} (hf : s.fill.val = 1) (hop : s.slotByte 0 = c.opcode) :
    afterEvent .tick s = s.await c :=
  afterEvent_of_deliver (e := .tick) (tick_of_parameterMissing (by
    rw [State.fetchWindow_one hf, hop, decode_paramOpcode, decodeParam_nil]))

/-- Settles O39: after the first `Tick` the buffer is empty, or the same wait is entered again. -/
theorem secondTickChangesNothing : Obligations.SecondTickChangesNothing := by
  intro s t htick
  obtain rfl := afterEvent_of_deliver (e := .tick) htick
  rw [tick_eq_next, Host.Outcome.next.injEq]
  refine ⟨?_, afterTick_of_empty⟩
  obtain ⟨hf, h⟩ | ⟨-, -, h⟩ | ⟨-, -, h⟩ | ⟨-, -, h⟩ | ⟨c, hf, h0, h⟩ | ⟨-, -, -, -, h⟩ := afterTick_cases s <;> rw [h]
  · exact h
  · exact afterTick_of_empty rfl
  · exact afterTick_of_empty rfl
  · exact afterTick_of_empty rfl
  · exact afterTick_of_paramOpcode_alone (s := s.await c) hf h0
  · exact afterTick_of_empty rfl

end Sys2Proof

/-! ## Every event: what it can change -/

namespace Sys2Proof

namespace Machine

/-! ### Frames of the two events with an argument or an output -/

@[simp] theorem rxByte_selectedChannel (b : Byte) (s : State) : (rxByte b s).selectedChannel = s.selectedChannel := by
  obtain ⟨-, h⟩ | ⟨-, -, h⟩ | ⟨-, -, -, h⟩ | ⟨-, -, -, h⟩ := rxByte_cases b s <;> rw [h] <;> rfl

@[simp] theorem rxByte_readPointer (b : Byte) (s : State) : (rxByte b s).readPointer = s.readPointer := by
  obtain ⟨-, h⟩ | ⟨-, -, h⟩ | ⟨-, -, -, h⟩ | ⟨-, -, -, h⟩ := rxByte_cases b s <;> rw [h] <;> rfl

@[simp] theorem rxByte_draws (b : Byte) (s : State) : (rxByte b s).draws = s.draws := by
  obtain ⟨-, h⟩ | ⟨-, -, h⟩ | ⟨-, -, -, h⟩ | ⟨-, -, -, h⟩ := rxByte_cases b s <;> rw [h] <;> rfl

@[simp] theorem rxByte_returned (b : Byte) (s : State) : (rxByte b s).returned = s.returned := by
  obtain ⟨-, h⟩ | ⟨-, -, h⟩ | ⟨-, -, -, h⟩ | ⟨-, -, -, h⟩ := rxByte_cases b s <;> rw [h] <;> rfl

@[simp] theorem rdReq_fill (s : State) : (rdReq s).fill = s.fill := by
  obtain ⟨-, h⟩ | ⟨-, h⟩ := rdReq_cases s <;> rw [h] <;> rfl

@[simp] theorem rdReq_disp (s : State) : (rdReq s).disp = s.disp := by
  obtain ⟨-, h⟩ | ⟨-, h⟩ := rdReq_cases s <;> rw [h] <;> rfl

@[simp] theorem rdReq_readPointer (s : State) : (rdReq s).readPointer = s.readPointer := by
  obtain ⟨-, h⟩ | ⟨-, h⟩ := rdReq_cases s <;> rw [h] <;> rfl

@[simp] theorem rdReq_selectedChannel (s : State) : (rdReq s).selectedChannel = s.selectedChannel := by
  obtain ⟨-, h⟩ | ⟨-, h⟩ := rdReq_cases s <;> rw [h] <;> rfl

@[simp] theorem rdReq_pending (s : State) : (rdReq s).pending = s.pending := afterEvent_pending .rdReq s

@[simp] theorem rdReq_slotByte (s : State) (a : SlotIndex) : (rdReq s).slotByte a = s.slotByte a := by
  obtain ⟨-, h⟩ | ⟨-, h⟩ := rdReq_cases s <;> rw [h] <;> rfl

theorem afterTick_slotByte (s : State) (a : SlotIndex) : (afterEvent .tick s).slotByte a = s.slotByte a := by
  obtain ⟨-, h⟩ | ⟨-, -, h⟩ | ⟨-, -, h⟩ | ⟨-, -, h⟩ | ⟨c, -, -, h⟩ | ⟨-, -, -, -, h⟩ := afterTick_cases s <;> rw [h] <;> rfl

end Machine

open Machine

/-- Settles O15: by the four outcomes of `RxByte`. -/
theorem rxByteByCase : Obligations.RxByteByCase := by
  intro s es b hp
  refine ⟨rxByte b (s.withPending es), step_of_event hp, afterEvent_pending (.rxByte b) _,
    rxByte_selectedChannel .., rxByte_readPointer .., rxByte_draws .., rxByte_returned .., ?_⟩
  obtain ⟨(hskip : s.rxSkip = true), h⟩ | ⟨(hskip : s.rxSkip = false), (hfull : s.fill.val = 15), h⟩ |
    ⟨(hskip : s.rxSkip = false), h0, rfl, h⟩ | ⟨(hskip : s.rxSkip = false), (hroom : s.fill.val < 15), hb, h⟩ :=
    rxByte_cases b (s.withPending es) <;> rw [h]
  · rw [if_pos hskip]; rfl
  · rw [if_neg (by simp [hskip]), if_pos hfull]
    simp [State.emit, State.withPending]
  · have hfill : s.fill.val = 0 := congrArg Fin.val h0
    rw [if_neg (by simp [hskip]), if_neg (by omega), if_pos ⟨hfill, rfl⟩]
    exact ⟨State.store_slotByte_fill _ _, fun _ ha => State.store_slotByte_other _ _ ha, rfl, rfl, rfl, rfl, rfl,
      List.append_assoc ..⟩
  · have hb' : ¬ (s.fill.val = 0 ∧ b = 0xF0#8) := fun ⟨h0, hb0⟩ => hb ⟨Fin.ext h0, hb0⟩
    rw [if_neg (by simp [hskip]), if_neg hroom.ne, if_neg hb']
    exact ⟨State.store_slotByte_fill _ _, fun _ ha => State.store_slotByte_other _ _ ha, State.store_fill_val b hroom, rfl,
      hskip, rfl, rfl, rfl⟩

/-- `fill` after a `Tick`: 1 where it waits, else 0. -/
theorem Machine.afterTick_fill (s : State) : (afterEvent .tick s).fill.val =
    if s.fill.val = 1 ∧ (s.slotByte 0 = 0xE1#8 ∨ s.slotByte 0 = 0xC3#8) then 1 else 0 := by
  obtain ⟨hf, h⟩ | ⟨-, h0, h⟩ | ⟨hf, -, h⟩ | ⟨hf, -, h⟩ | ⟨c, hf, h0, h⟩ | ⟨-, -, hptr, hch, h⟩ := afterTick_cases s <;> rw [h]
  · rw [if_neg (by omega), hf]
  · rw [if_neg (fun hwait => absurd hwait.2 (by rw [h0]; decide))]; rfl
  · rw [if_neg (by omega)]; rfl
  · rw [if_neg (by omega)]; rfl
  · rw [if_pos ⟨hf, (ParamCommand.exists_opcode_eq_iff _).1 ⟨c, h0.symm⟩⟩]; exact hf
  · rw [if_neg (fun hwait => hwait.2.elim hptr hch)]; rfl

/-- Settles O16: by the event, and for `RxByte` by its outcome. -/
theorem fillCountsStoredBytes : Obligations.FillCountsStoredBytes := by
  intro s t e h
  obtain rfl := afterEvent_of_deliver h
  refine ⟨Nat.le_of_lt_succ (Fin.isLt _), ?_, ?_, ?_, ?_⟩
  · rintro (rfl | rfl) <;> rfl
  · rintro rfl; exact rdReq_fill s
  · rintro rfl; exact afterTick_fill s
  · rintro b rfl
    rw [afterEvent_rxByte]
    obtain ⟨-, h⟩ | ⟨-, -, h⟩ | ⟨-, h0, hb, h⟩ | ⟨-, hroom, -, h⟩ := rxByte_cases b s <;> rw [h]
    · exact ⟨fun _ => ⟨rfl, fun _ => rfl⟩, .inl ⟨rfl, fun _ => rfl⟩⟩
    · exact ⟨fun _ => ⟨rfl, fun _ => rfl⟩, .inl ⟨rfl, fun _ => rfl⟩⟩
    · have hfill : s.fill.val = 0 := congrArg Fin.val h0
      exact ⟨fun hfull => by omega, .inr (.inr ⟨rfl, hfill, hb, rfl⟩)⟩
    · exact ⟨fun hfull => absurd hfull hroom.ne,
        .inr (.inl ⟨State.store_fill_val b hroom, State.store_slotByte_fill b (s.emit (.rx b))⟩)⟩

/-- A store leaves every slot but `buf[fill]` alone. -/
theorem Machine.State.store_slotByte_cases (b : Byte) (s : State) (a : SlotIndex) :
    (s.store b).slotByte a = s.slotByte a ∨ a = s.fill ∧ (s.store b).slotByte a = b := by
  by_cases ha : a = s.fill
  · exact .inr ⟨ha, ha ▸ State.store_slotByte_fill b s⟩
  · exact .inl (State.store_slotByte_other b s ha)

/-- Settles O17: only the two storing outcomes of `RxByte` write, and they write at `fill`. -/
theorem bufferWrittenOnlyAtFill : Obligations.BufferWrittenOnlyAtFill := by
  intro s t e h hpower a
  obtain rfl := afterEvent_of_deliver h
  cases e with
  | powerOn => exact absurd rfl hpower
  | rxStart => exact .inl rfl
  | rdReq => exact .inl (rdReq_slotByte s a)
  | tick => exact .inl (afterTick_slotByte s a)
  | rxByte b =>
    rw [afterEvent_rxByte]
    obtain ⟨-, h⟩ | ⟨-, -, h⟩ | ⟨hskip, h0, -, h⟩ | ⟨hskip, hroom, -, h⟩ := rxByte_cases b s <;> rw [h]
    · exact .inl rfl
    · exact .inl rfl
    · refine (State.store_slotByte_cases b (s.emit (.rx b)) a).imp id fun ⟨ha, hb⟩ => ⟨b, rfl, hskip, ha, ?_, hb⟩
      rw [ha, State.emit_fill, h0]; decide
    · exact (State.store_slotByte_cases b (s.emit (.rx b)) a).imp id fun ⟨ha, hb⟩ => ⟨b, rfl, hskip, ha, ha ▸ hroom, hb⟩

/-- Settles O33: the only event functions that write the channel are `PowerOn` and the CHANNEL_SELECT outcome of a `Tick`. -/
theorem channelWrittenOnlyByChannelSelect : Obligations.ChannelWrittenOnlyByChannelSelect := by
  intro s t hstep hne
  obtain ⟨-, rfl⟩ | ⟨e, es, hp, rfl⟩ := step_cases hstep
  · exact absurd rfl hne
  cases e with
  | powerOn => exact .inl ⟨es, hp⟩
  | rxStart => exact absurd rfl hne
  | rxByte b => exact absurd (rxByte_selectedChannel b (s.withPending es)) hne
  | rdReq => exact absurd (rdReq_selectedChannel (s.withPending es)) hne
  | tick =>
    obtain ⟨-, h⟩ | ⟨-, -, h⟩ | ⟨-, -, h⟩ | ⟨hfill, hop, h⟩ | ⟨c, -, -, h⟩ | ⟨-, -, -, -, h⟩ :=
      afterTick_cases (s.withPending es) <;> rw [h] at hne ⊢
    · exact absurd rfl hne
    · exact absurd rfl hne
    · exact absurd rfl hne
    · exact .inr ⟨⟨es, hp⟩, hfill, hop, rfl⟩
    · exact absurd rfl hne
    · exact absurd rfl hne

/-- Settles O34: the only event functions that write the pointer are `PowerOn` and the SET_READ_PTR outcome of a `Tick`. -/
theorem pointerWrittenOnlyBySetReadPtr : Obligations.PointerWrittenOnlyBySetReadPtr := by
  intro s t hstep hne
  obtain ⟨-, rfl⟩ | ⟨e, es, hp, rfl⟩ := step_cases hstep
  · exact absurd rfl hne
  cases e with
  | powerOn => exact .inl ⟨⟨es, hp⟩, rfl⟩
  | rxStart => exact absurd rfl hne
  | rxByte b => exact absurd (rxByte_readPointer b (s.withPending es)) hne
  | rdReq => exact absurd (rdReq_readPointer (s.withPending es)) hne
  | tick =>
    obtain ⟨-, h⟩ | ⟨-, -, h⟩ | ⟨hfill, hop, h⟩ | ⟨-, -, h⟩ | ⟨c, -, -, h⟩ | ⟨-, -, -, -, h⟩ :=
      afterTick_cases (s.withPending es) <;> rw [h] at hne ⊢
    · exact absurd rfl hne
    · exact absurd rfl hne
    · exact .inr ⟨⟨es, hp⟩, hfill, hop, rfl⟩
    · exact absurd rfl hne
    · exact absurd rfl hne
    · exact absurd rfl hne

/-- Settles O35: the invariant shuts out the RESET outcome of a `Tick`, so `RxByte` is RESET's only place. -/
theorem statusWrittenOnlyByResetAndRead : Obligations.StatusWrittenOnlyByResetAndRead := by
  intro s t hinv hstep hne
  obtain ⟨-, rfl⟩ | ⟨e, es, hp, rfl⟩ := step_cases hstep
  · exact absurd rfl hne
  cases e with
  | powerOn => exact .inl ⟨⟨es, hp⟩, rfl⟩
  | rxStart => exact absurd rfl hne
  | rxByte b =>
    rw [afterEvent_rxByte] at hne ⊢
    obtain ⟨-, h⟩ | ⟨-, -, h⟩ | ⟨hskip, h0, rfl, h⟩ | ⟨-, -, -, h⟩ := rxByte_cases b (s.withPending es) <;> rw [h] at hne ⊢
    · exact absurd rfl hne
    · exact absurd rfl hne
    · exact .inr (.inr ⟨⟨es, hp⟩, hskip, congrArg Fin.val h0, rfl⟩)
    · exact absurd rfl hne
  | rdReq =>
    rw [afterEvent_rdReq] at hne ⊢
    obtain ⟨hptr, h⟩ | ⟨-, h⟩ := rdReq_cases (s.withPending es) <;> rw [h] at hne ⊢
    · exact .inr (.inl ⟨⟨es, hp⟩, hptr, rfl⟩)
    · exact absurd rfl hne
  | tick =>
    obtain ⟨-, h⟩ | ⟨hfill, hop, -⟩ | ⟨-, -, h⟩ | ⟨-, -, h⟩ | ⟨c, -, -, h⟩ | ⟨-, -, -, -, h⟩ := afterTick_cases (s.withPending es)
    · exact absurd (congrArg State.status h) hne
    · exact absurd hop (hinv.slotByte_zero_ne hfill)
    · exact absurd (congrArg State.status h) hne
    · exact absurd (congrArg State.status h) hne
    · exact absurd (congrArg State.status h) hne
    · exact absurd (congrArg State.status h) hne

end Sys2Proof

namespace Sys2Proof

open Machine

/-- Settles O37: by the event, and for `RxByte` and `Tick` by the outcome. -/
theorem dispatcherTransitions : Obligations.DispatcherTransitions := by
  intro s t e h
  obtain rfl := afterEvent_of_deliver h
  refine ⟨?_, ?_, ?_, ?_⟩
  · rintro (rfl | rfl) <;> rfl
  · rintro rfl; exact rdReq_disp s
  · rintro b rfl
    rw [afterEvent_rxByte]
    obtain ⟨hskip, h⟩ | ⟨-, hfull, h⟩ | ⟨hskip, h0, hb, h⟩ | ⟨-, -, hb, h⟩ := rxByte_cases b s <;> rw [h]
    · rw [if_neg (by simp [hskip])]; rfl
    · rw [if_neg (by simp [hfull])]; rfl
    · rw [if_pos ⟨hskip, congrArg Fin.val h0, hb⟩]; rfl
    · rw [if_neg (fun hreset => hb (hreset.2.imp Fin.ext id))]; rfl
  · rintro rfl
    obtain ⟨hf, h⟩ | ⟨hf, h0, h⟩ | ⟨hf, -, h⟩ | ⟨hf, -, h⟩ | ⟨c, hf, h0, h⟩ | ⟨hf, -, hptr, hch, h⟩ := afterTick_cases s <;> rw [h]
    · rw [if_pos hf]
    · rw [if_neg (by omega), h0, if_neg (fun hwait => absurd hwait.2 (by decide)),
        if_neg (fun hwait => absurd hwait.2 (by decide))]
      rfl
    · rw [if_neg (by omega), if_neg (by omega), if_neg (by omega)]; rfl
    · rw [if_neg (by omega), if_neg (by omega), if_neg (by omega)]; rfl
    · rw [if_neg (by omega), h0]
      cases c with
      | setReadPtr => rw [if_pos ⟨hf, by decide⟩]; rfl
      | channelSelect => rw [if_neg (fun hwait => absurd hwait.2 (by decide)), if_pos ⟨hf, by decide⟩]; rfl
    · rw [if_neg (by omega), if_neg (fun hwait => hptr hwait.2), if_neg (fun hwait => hch hwait.2)]; rfl

/-- Settles O36: the records each outcome adds, event by event. -/
theorem conditionsAreRecordedExactly : Obligations.ConditionsAreRecordedExactly := by
  intro s t e h
  obtain rfl := afterEvent_of_deliver h
  cases e with
  | powerOn => exact ⟨[], by simp⟩
  | rxStart => exact ⟨[], by simp [rxStart]⟩
  | rxByte b =>
    rw [afterEvent_rxByte]
    obtain ⟨hskip, h⟩ | ⟨hskip, hfull, h⟩ | ⟨-, h0, -, h⟩ | ⟨-, hroom, -, h⟩ := rxByte_cases b s <;> rw [h]
    · exact ⟨[.rx b], by simp [hskip]⟩
    · exact ⟨[.rx b, .overflow b], by simp [hskip, hfull, eq_comm]⟩
    · exact ⟨[.rx b, .cmdReset], by simp [State.doReset, h0]⟩
    · have hfull : s.fill.val ≠ 15 := hroom.ne
      exact ⟨[.rx b], by simp [hfull]⟩
  | rdReq =>
    rw [afterEvent_rdReq]
    obtain ⟨hptr, h⟩ | ⟨hptr, h⟩ := rdReq_cases s <;> rw [h]
    · exact ⟨[.statusRead s.status], by simp [hptr]⟩
    · refine ⟨[.unsupportedRead s.readPointer], rfl, by simp, by simp, fun p => ?_⟩
      simp only [List.mem_singleton, Diag.unsupportedRead.injEq, true_and]
      exact ⟨fun hp => ⟨hp.symm, hp ▸ hptr⟩, fun hp => hp.1.symm⟩
  | tick =>
    obtain ⟨hf, h⟩ | ⟨-, h0, h⟩ | ⟨-, h0, h⟩ | ⟨-, h0, h⟩ | ⟨c, -, h0, h⟩ | ⟨hf, hreset, hptr, hch, h⟩ := afterTick_cases s <;> rw [h]
    · exact ⟨[], by simp [hf]⟩
    · exact ⟨[.cmdReset], by simp [State.doReset, h0]⟩
    · exact ⟨[.cmdSetReadPtr (s.slotByte 1)], by simp [h0]⟩
    · exact ⟨[.cmdChannelSelect (s.slotByte 1)], by simp [h0]⟩
    · exact ⟨[], by cases c <;> simp [h0, ParamCommand.opcode]⟩
    · refine ⟨[.unknown (s.slotByte 0)], rfl, by simp, fun c => ?_, by simp⟩
      simp only [List.mem_singleton, Diag.unknown.injEq, true_and]
      exact ⟨fun hc => ⟨hf, hc.symm, hc ▸ hreset, hc ▸ hptr, hc ▸ hch⟩, fun hc => hc.2.1.symm⟩

/-! ## Reads in a row -/

namespace Machine

/-- Reads through the status selector from the idle baseline each answer 0x08 (R147). -/
theorem afterReads_of_idle {s : State} (hptr : s.readPointer = Config.selStatus) (hidle : s.status = Config.statusIdle) (n : Nat) :
    (afterEvents (List.replicate n .rdReq) s).status = Config.statusIdle ∧
      (afterEvents (List.replicate n .rdReq) s).returned = s.returned ++ List.replicate n Config.statusIdle := by
  induction n generalizing s with
  | zero => simp [hidle]
  | succ n ih =>
    rw [List.replicate_succ, afterEvents_cons, afterEvent_rdReq]
    obtain ⟨hstatus, hret⟩ := ih (s := rdReq s) (by simpa using hptr) (by rw [rdReq_of_selStatus hptr]; rfl)
    refine ⟨hstatus, hret.trans ?_⟩
    simp [rdReq_of_selStatus hptr, hidle, List.replicate_succ]

theorem afterReads_readPointer (s : State) (n : Nat) :
    (afterEvents (List.replicate n .rdReq) s).readPointer = s.readPointer := by
  induction n generalizing s with
  | zero => rfl
  | succ n ih => rw [List.replicate_succ, afterEvents_cons, ih, afterEvent_rdReq, rdReq_readPointer]

/-- Reads through another pointer keep `status` and answer one byte each (R112). -/
theorem afterReads_of_other {s : State} (hptr : s.readPointer ≠ Config.selStatus) (n : Nat) :
    (afterEvents (List.replicate n .rdReq) s).status = s.status ∧
      (afterEvents (List.replicate n .rdReq) s).returned.length = s.returned.length + n := by
  induction n generalizing s with
  | zero => exact ⟨rfl, rfl⟩
  | succ n ih =>
    obtain ⟨hsel, -⟩ | ⟨-, hread⟩ := rdReq_cases s
    · exact absurd hsel hptr
    rw [List.replicate_succ, afterEvents_cons, afterEvent_rdReq]
    obtain ⟨hstatus, hlen⟩ := ih (s := rdReq s) (by simpa using hptr)
    rw [hstatus, hlen, hread]
    exact ⟨rfl, by simp; omega⟩

end Machine

/-- Settles O21: the first read clears `status`, the others find it idle. -/
theorem repeatedReads : Obligations.RepeatedReads := by
  intro s n es hp
  have hrun := run_eq_afterEvents hp
  rw [List.length_replicate] at hrun
  refine ⟨_, hrun, by simp, afterReads_readPointer _ _, fun hptr => ?_, fun hptr => ?_⟩
  · have hread := rdReq_of_selStatus (s := s.withPending es) hptr
    rw [List.replicate_succ, afterEvents_cons, afterEvent_rdReq]
    obtain ⟨hstatus, hret⟩ := afterReads_of_idle (s := rdReq (s.withPending es)) (by simpa using hptr) (by rw [hread]; rfl) n
    exact ⟨hstatus, by simpa [hread] using hret⟩
  · exact afterReads_of_other (s := s.withPending es) hptr (n + 1)

end Sys2Proof

/-! ## Transactions -/

namespace Sys2Proof

namespace Machine

/-! ### A buffer that holds the bytes received so far -/

/-- The buffer holds the first 15 of the bytes `bs`, in order (R78, R79). -/
structure State.Holds (t : State) (bs : List Byte) : Prop where
  fill : t.fill.val = min bs.length Config.fillMax
  slots : ∀ a : SlotIndex, a.val < t.fill.val → bs[a.val]? = some (t.slotByte a)

theorem holds_nil {t : State} (h : t.fill = 0) : t.Holds [] := ⟨by simp [h], fun a ha => by simp [h] at ha⟩

theorem State.Holds.emit {t : State} {bs : List Byte} (h : t.Holds bs) (r : Diag) : (t.emit r).Holds bs := ⟨h.fill, h.slots⟩

theorem State.Holds.await {t : State} {bs : List Byte} (h : t.Holds bs) (c : ParamCommand) : (t.await c).Holds bs :=
  ⟨h.fill, h.slots⟩

theorem State.Holds.store {t : State} {bs : List Byte} (h : t.Holds bs) (hroom : t.fill.val < Config.fillMax) (b : Byte) :
    (t.store b).Holds (bs ++ [b]) := by
  have hlen : t.fill.val = bs.length := by have := h.fill; omega
  have hfill := State.store_fill_val b hroom
  refine ⟨by rw [hfill, List.length_append, List.length_singleton]; omega, fun a ha => ?_⟩
  by_cases ha' : a = t.fill
  · rw [ha', State.store_slotByte_fill, hlen, List.getElem?_concat_length]
  · have hlt : a.val < t.fill.val := by have := Fin.val_ne_of_ne ha'; omega
    rw [State.store_slotByte_other b t ha', List.getElem?_append_left (hlen ▸ hlt), h.slots a hlt]

/-- At 15 bytes a further one changes nothing of what is held. -/
theorem State.Holds.drop {t : State} {bs : List Byte} (h : t.Holds bs) (hfull : t.fill.val = Config.fillMax) (b : Byte) :
    t.Holds (bs ++ [b]) := by
  have hlen := h.fill
  refine ⟨by rw [List.length_append]; omega, fun a ha => ?_⟩
  rw [List.getElem?_append_left (by omega), h.slots a ha]

theorem State.Holds.fill_eq_zero_iff {t : State} {bs : List Byte} (h : t.Holds bs) : t.fill = 0 ↔ bs = [] := by
  have hfill := h.fill
  rw [SlotIndex.eq_zero_iff, ← List.length_eq_zero_iff]
  simp only [Config.fillMax, Config.capacity] at hfill
  omega

/-- What a `Tick` sees of the bytes: the first two. -/
theorem State.Holds.fetchWindow {t : State} {bs : List Byte} (h : t.Holds bs) : t.fetchWindow = bs.take 2 := by
  have hfill : t.fill.val = min bs.length 15 := h.fill
  match bs, hfill, h.slots with
  | [], hfill, _ => exact State.fetchWindow_empty hfill
  | [x], hfill, hslots =>
    have hf : t.fill.val = 1 := hfill
    rw [State.fetchWindow_one hf, ← Option.some.inj (hslots 0 (hf ▸ Nat.one_pos))]
    rfl
  | x :: y :: rest, hfill, hslots =>
    have hf : 2 ≤ t.fill.val := by simp only [List.length_cons] at hfill; omega
    rw [State.fetchWindow_two hf, ← Option.some.inj (hslots 0 (Nat.lt_of_lt_of_le Nat.two_pos hf)), ← Option.some.inj (hslots 1 hf)]
    rfl

theorem State.Holds.afterTick_of_ok {t v : State} {bs : List Byte} {i : Instr} {rest : List Byte} (h : t.Holds bs)
    (hd : decode (bs.take 2) = .ok (i, rest)) (hexec : exec i t = .next v) : afterEvent .tick t = v :=
  afterEvent_of_deliver (e := .tick) ((tick_of_decode_ok (h.fetchWindow ▸ hd)).trans hexec)

theorem State.Holds.afterTick_of_parameterMissing {t : State} {bs : List Byte} {c : ParamCommand} (h : t.Holds bs)
    (hd : decode (bs.take 2) = .error (.parameterMissing c)) : afterEvent .tick t = t.await c :=
  afterEvent_of_deliver (e := .tick) (tick_of_parameterMissing (h.fetchWindow ▸ hd))

theorem State.Holds.afterTick_of_emptyBuffer {t : State} {bs : List Byte} (h : t.Holds bs)
    (hd : decode (bs.take 2) = .error .emptyBuffer) : afterEvent .tick t = t :=
  afterEvent_of_deliver (e := .tick) (tick_of_emptyBuffer (h.fetchWindow ▸ hd))

/-- A byte that arrives unskipped, in a transaction that does not begin with 0xF0: stored, or dropped from the 16th on. -/
theorem State.Holds.rxByte_cases {t : State} {bs : List Byte} (h : t.Holds bs) (hskip : t.rxSkip = false) {b : Byte}
    (hhead : (bs ++ [b]).head? ≠ some Config.opReset) :
    (rxByte b t).Holds (bs ++ [b]) ∧
    ((t.fill.val = Config.fillMax ∧ rxByte b t = (t.emit (.rx b)).emit (.overflow b)) ∨
     (t.fill.val < Config.fillMax ∧ rxByte b t = (t.emit (.rx b)).store b)) := by
  obtain ⟨hs, -⟩ | ⟨-, hfull, h'⟩ | ⟨-, h0, hb, -⟩ | ⟨-, hroom, -, h'⟩ := Machine.rxByte_cases b t
  · exact nomatch hskip.symm.trans hs
  · exact ⟨h' ▸ ((h.emit _).emit _).drop hfull b, .inl ⟨hfull, h'⟩⟩
  · rw [h.fill_eq_zero_iff.1 h0, hb] at hhead
    exact absurd rfl hhead
  · exact ⟨h' ▸ (h.emit _).store hroom b, .inr ⟨hroom, h'⟩⟩

/-- Extending a list keeps the byte it begins with. -/
theorem head?_ne_of_append_head?_ne {bs ext : List Byte} {c : Byte} (h : (bs ++ ext).head? ≠ some c) : bs.head? ≠ some c := by
  cases bs with
  | nil => exact nofun
  | cons x bs => exact h

/-! ### A transaction that does not begin with 0xF0 -/

/-- What an undisturbed transaction `W[bs]` from `s` leaves, when `bs` does not begin with 0xF0. -/
structure Received (s : State) (bs : List Byte) (t : State) : Prop where
  holds : t.Holds bs
  rdCur : t.rdCur = 0
  disp : t.disp = .idle
  rxSkip : t.rxSkip = false
  status : t.status = s.status
  selectedChannel : t.selectedChannel = s.selectedChannel
  readPointer : t.readPointer = s.readPointer
  returned : t.returned = s.returned
  draws : t.draws = s.draws
  otherSlots : ∀ a : SlotIndex, t.fill.val ≤ a.val → t.slotByte a = s.slotByte a
  diag : t.diag = s.diag ++ (bs.take 15).map .rx ++ (bs.drop 15).flatMap (fun b => [.rx b, .overflow b])

theorem received_nil (s : State) : Received s [] (rxStart s) :=
  ⟨holds_nil rfl, rfl, rfl, rfl, rfl, rfl, rfl, rfl, rfl, fun _ _ => rfl, by simp [rxStart]⟩

theorem Received.concat {s t : State} {bs : List Byte} {b : Byte} (h : Received s bs t)
    (hhead : (bs ++ [b]).head? ≠ some Config.opReset) : Received s (bs ++ [b]) (rxByte b t) := by
  have hlen : t.fill.val = min bs.length 15 := h.holds.fill
  obtain ⟨hholds, ⟨hfull, h'⟩ | ⟨hroom, h'⟩⟩ := h.holds.rxByte_cases h.rxSkip hhead
  · have h15 : 15 ≤ bs.length := by
      have : t.fill.val = 15 := hfull
      omega
    rw [h'] at hholds ⊢
    refine ⟨hholds, h.rdCur, h.disp, h.rxSkip, h.status, h.selectedChannel, h.readPointer, h.returned, h.draws, h.otherSlots, ?_⟩
    simp [h.diag, List.take_append_of_le_length h15, List.drop_append_of_le_length h15]
  · have h15 : bs.length < 15 := by
      have : t.fill.val < 15 := hroom
      omega
    rw [h'] at hholds ⊢
    refine ⟨hholds, h.rdCur, h.disp, h.rxSkip, h.status, h.selectedChannel, h.readPointer, h.returned, h.draws, fun a ha => ?_, ?_⟩
    · have hfill := State.store_fill_val (s := t.emit (.rx b)) b hroom
      rw [hfill, State.emit_fill] at ha
      rw [State.store_slotByte_other b _ (fun heq => by rw [heq] at ha; exact Nat.not_succ_le_self _ ha)]
      exact h.otherSlots a (Nat.le_of_succ_le ha)
    · simp [h.diag, List.take_of_length_le h15.le, List.drop_of_length_le h15.le,
        List.take_of_length_le (show (bs ++ [b]).length ≤ 15 by simpa using h15),
        List.drop_of_length_le (show (bs ++ [b]).length ≤ 15 by simpa using h15)]

theorem transaction_concat (bs : List Byte) (b : Byte) : transaction (bs ++ [b]) = transaction bs ++ [.rxByte b] := by
  simp [transaction]

theorem transaction_length (bs : List Byte) : (transaction bs).length = bs.length + 1 := by simp [transaction]

theorem received_afterTransaction (s : State) {bs : List Byte} (hhead : bs.head? ≠ some Config.opReset) :
    Received s bs (afterEvents (transaction bs) s) := by
  induction bs using List.reverseRecOn with
  | nil => exact received_nil s
  | append_singleton bs b ih =>
    rw [transaction_concat, afterEvents_append]
    exact (ih (head?_ne_of_append_head?_ne hhead)).concat hhead

/-! ### A transaction that begins with 0xF0 -/

/-- Skipped bytes are recorded and do nothing else (R76). -/
theorem afterBytes_of_rxSkip (bs : List Byte) {s : State} (h : s.rxSkip = true) :
    afterEvents (bs.map .rxByte) s = { s with diag := s.diag ++ bs.map .rx } := by
  induction bs generalizing s with
  | nil => simp
  | cons b bs ih =>
    have hb : rxByte b s = s.emit (.rx b) := by rw [rxByte_eq_ite, if_pos h]
    rw [List.map_cons, afterEvents_cons, afterEvent_rxByte, hb, ih (s := s.emit (.rx b)) h]
    simp [State.emit]

/-- 0xF0 at index 0 executes RESET at once, and the rest of the transaction is skipped (R77). -/
theorem afterTransaction_reset (s : State) (rest : List Byte) :
    afterEvents (transaction (Config.opReset :: rest)) s =
      { (((rxStart s).emit (.rx Config.opReset)).store Config.opReset).doReset with
        diag := s.diag ++ .rx Config.opReset :: .cmdReset :: rest.map .rx } := by
  have hreset : rxByte Config.opReset (rxStart s) =
      (((rxStart s).emit (.rx Config.opReset)).store Config.opReset).doReset := rfl
  rw [transaction, afterEvents_cons, List.map_cons, afterEvents_cons, afterEvent_rxStart, afterEvent_rxByte, hreset,
    afterBytes_of_rxSkip rest rfl]
  simp [State.doReset, rxStart]

end Machine

open Machine

/-- Settles O41: the run is the fold of the transaction's events; RESET at once if byte 0 is 0xF0, else by induction on the bytes
from the last. -/
theorem transactionNetEffect : Obligations.TransactionNetEffect := by
  intro s bytes later hp
  have hrun := run_eq_afterEvents hp
  rw [transaction_length] at hrun
  refine ⟨_, hrun, by simp, ?_⟩
  by_cases hhead : bytes.head? = some Config.opReset
  · obtain ⟨rest, rfl⟩ := List.head?_eq_some_iff.1 hhead
    rw [afterTransaction_reset]
    refine ⟨rfl, rfl, rfl, rfl, rfl, rfl, ?_⟩
    rw [if_pos hhead]
    refine ⟨rfl, rfl, rfl, fun a ha => ?_, rfl⟩
    exact State.store_slotByte_other _ _ fun h0 => ha (congrArg Fin.val h0)
  · have h := received_afterTransaction (s.withPending later) hhead
    rw [if_neg hhead]
    exact ⟨h.rdCur, h.disp, h.selectedChannel, h.readPointer, h.returned, h.draws, h.status, h.holds.fill, h.rxSkip, h.holds.slots,
      h.otherSlots, h.diag⟩

/-- Two reads through the status selector answer `status` and then 0x08 (R111). -/
theorem Machine.twoReads_of_selStatus {s : State} (hptr : s.readPointer = Config.selStatus) :
    (rdReq (rdReq s)).returned = s.returned ++ [s.status, Config.statusIdle] ∧ (rdReq (rdReq s)).status = Config.statusIdle := by
  rw [rdReq_of_selStatus (s := rdReq s) (by simpa using hptr), rdReq_of_selStatus hptr]
  simp

/-- Settles O43: the transaction resets the block, the two reads answer 0x18 and the baseline. -/
theorem resetThenTwoReads : Obligations.ResetThenTwoReads := by
  intro s trailing later hptr hp
  have hrun := run_eq_afterEvents (s := s) (events := transaction (0xF0#8 :: trailing) ++ [.rdReq, .rdReq]) (later := later) (by simp [hp])
  rw [List.length_append, transaction_length, afterEvents_append] at hrun
  have hreset := afterTransaction_reset (s.withPending later) trailing
  obtain ⟨hret, hstatus⟩ := twoReads_of_selStatus (s := afterEvents (transaction (0xF0#8 :: trailing)) (s.withPending later))
    (by rw [hreset]; exact hptr)
  refine ⟨_, hrun, by simp, hret.trans (by rw [hreset]; rfl), hstatus, ?_, ?_⟩ <;> simp [hreset, State.doReset]

/-- Settles O44: the transaction leaves `status` alone, the `Tick` moves the pointer, the two reads go through it. -/
theorem readStatusPseudoCommand : Obligations.ReadStatusPseudoCommand := by
  intro s later hp
  have hrun := run_eq_afterEvents (s := s) (events := transaction [Config.opSetReadPtr, Config.selStatus] ++ [.tick, .rdReq, .rdReq])
    (later := later) (by simp [hp, pseudoReadStatus])
  have hreceived := received_afterTransaction (s.withPending later) (bs := [Config.opSetReadPtr, Config.selStatus]) (by decide)
  rw [afterEvents_append, afterEvents_cons, hreceived.holds.afterTick_of_ok rfl rfl] at hrun
  refine ⟨_, hrun, by simp, ?_⟩
  obtain ⟨hret, hstatus⟩ := twoReads_of_selStatus (s := (((afterEvents (transaction [Config.opSetReadPtr, Config.selStatus])
    (s.withPending later)).setReadPointer Config.selStatus).emit (.cmdSetReadPtr Config.selStatus)).consume) rfl
  refine ⟨?_, hstatus, by simp, by simp [hreceived.selectedChannel]⟩
  refine hret.trans ?_
  simp [hreceived.returned, hreceived.status]

/-- Settles O45: the second transaction empties the buffer of the first, and the `Tick` runs what the second one left. -/
theorem undispatchedCommandIsLost : Obligations.UndispatchedCommandIsLost := by
  intro s ch p later hp
  have hrun := run_eq_afterEvents (s := s) (events := transaction [0xC3#8, ch] ++ (transaction [0xE1#8, p] ++ [.tick])) (later := later)
    (by simp [hp])
  have hfirst := received_afterTransaction (s.withPending later) (bs := [0xC3#8, ch])
    (mt Option.some.inj (by decide))
  have hsecond := received_afterTransaction (afterEvents (transaction [0xC3#8, ch]) (s.withPending later)) (bs := [0xE1#8, p])
    (mt Option.some.inj (by decide))
  rw [afterEvents_append, afterEvents_append, afterEvents_cons, hsecond.holds.afterTick_of_ok rfl rfl] at hrun
  refine ⟨_, hrun, by simp, ?_, rfl, ?_, ?_⟩
  · exact hsecond.selectedChannel.trans hfirst.selectedChannel
  · exact hsecond.status.trans hfirst.status
  · simp [hsecond.diag, hfirst.diag]

/-- Settles O46: after the wait, `RxStart` begins with an empty buffer, so the lone byte is byte 0 of a command. -/
theorem splitParameterIsANewCommand : Obligations.SplitParameterIsANewCommand := by
  intro s b later
  constructor
  · intro hp
    have hrun := run_eq_afterEvents (s := s) (events := transaction [0xE1#8] ++ .tick :: transaction [0xF0#8]) (later := later) (by simp [hp])
    have hfirst := received_afterTransaction (s.withPending later) (bs := [0xE1#8]) (by decide)
    rw [afterEvents_append, afterEvents_cons, hfirst.holds.afterTick_of_parameterMissing rfl, afterTransaction_reset] at hrun
    exact ⟨_, hrun, by simp [State.doReset, rxStart], rfl, rfl, hfirst.readPointer, hfirst.selectedChannel⟩
  · intro hreset hptr hch hp
    have hrun := run_eq_afterEvents (s := s) (events := transaction [0xC3#8] ++ .tick :: (transaction [b] ++ [.tick])) (later := later)
      (by simp [hp])
    have hfirst := received_afterTransaction (s.withPending later) (bs := [0xC3#8]) (by decide)
    have hsecond := received_afterTransaction ((afterEvents (transaction [0xC3#8]) (s.withPending later)).await .channelSelect)
      (bs := [b]) (by simpa using hreset)
    rw [afterEvents_append, afterEvents_cons, hfirst.holds.afterTick_of_parameterMissing rfl, afterEvents_append, afterEvents_cons,
      hsecond.holds.afterTick_of_ok (decode_other [] hreset hptr hch) (exec_unknownInstr b _)] at hrun
    refine ⟨_, hrun, by simp [State.unknownOutcome], rfl, ?_, ?_, ?_, ?_⟩
    · exact hsecond.status.trans hfirst.status
    · exact hsecond.readPointer.trans hfirst.readPointer
    · exact hsecond.selectedChannel.trans hfirst.selectedChannel
    · simp [State.unknownOutcome, hsecond.diag, hfirst.diag]

end Sys2Proof

/-! ## One command per transaction

A transaction is followed from the state `s` it begins in, through its bytes and the `Tick`s between them. Until a `Tick` finds a
complete command (or byte 0 is 0xF0) it is being collected; from then on it is done, and nothing happens any more. -/

namespace Sys2Proof

/-- What decodes, decodes in the same way when more bytes follow. -/
theorem decode_append {bs rest : List Byte} {i : Instr} (h : decode bs = .ok (i, rest)) (ext : List Byte) :
    decode (bs ++ ext) = .ok (i, rest ++ ext) := by
  cases bs with
  | nil => exact nomatch h
  | cons c bs =>
    obtain ⟨rfl, hd⟩ | ⟨k, rfl, hd⟩ | ⟨hreset, hptr, hch, hd⟩ := decode_cons_cases c bs
    · obtain ⟨rfl, rfl⟩ := Prod.mk.inj (Except.ok.inj (hd.symm.trans h))
      exact decode_reset _
    · cases bs with
      | nil => exact nomatch hd.symm.trans h
      | cons p bs =>
        obtain ⟨rfl, rfl⟩ := Prod.mk.inj (Except.ok.inj (hd.symm.trans h))
        exact decode_paramOpcode k _
    · obtain ⟨rfl, rfl⟩ := Prod.mk.inj (Except.ok.inj (hd.symm.trans h))
      exact decode_other _ hreset hptr hch

/-- Two bytes always hold a command (R50). -/
theorem decode_pair_isOk (c p : Byte) (rest : List Byte) : (decode (c :: p :: rest)).isOk = true := by
  by_cases hparam : ∃ k : ParamCommand, k.opcode = c
  · obtain ⟨k, rfl⟩ := hparam
    exact decode_paramOpcode_isOk k _
  · exact decode_isOk_of_not_paramOpcode hparam _

/-- Where the first two bytes hold no command, there are no more bytes than those. -/
theorem decode_eq_of_decode_take_two_eq_error {bs : List Byte} {r : DecodeRefusal} (h : decode (bs.take 2) = .error r) :
    decode bs = .error r := by
  match bs with
  | [] => exact h
  | [_] => exact h
  | c :: p :: _ =>
    have hok := decode_pair_isOk c p []
    rw [show decode [c, p] = .error r from h] at hok
    exact nomatch hok

namespace Machine

/-! ### Equal registers and equal reports of unknown commands -/

/-- `t` has the registers of `s` and as many records of each unknown command. -/
structure SameRegisters (s t : State) : Prop where
  status : t.status = s.status
  readPointer : t.readPointer = s.readPointer
  selectedChannel : t.selectedChannel = s.selectedChannel
  unknowns : ∀ c, t.diag.count (.unknown c) = s.diag.count (.unknown c)

theorem SameRegisters.emit {s t : State} (h : SameRegisters s t) (r : Diag) : SameRegisters (s.emit r) (t.emit r) :=
  ⟨h.status, h.readPointer, h.selectedChannel, fun c => by simp [List.count_append, h.unknowns c]⟩

theorem SameRegisters.consume {s t : State} (h : SameRegisters s t) : SameRegisters s.consume t.consume :=
  ⟨h.status, h.readPointer, h.selectedChannel, h.unknowns⟩

theorem SameRegisters.setReadPointer {s t : State} (h : SameRegisters s t) (p : Byte) :
    SameRegisters (s.setReadPointer p) (t.setReadPointer p) :=
  ⟨h.status, rfl, h.selectedChannel, h.unknowns⟩

theorem SameRegisters.setChannel {s t : State} (h : SameRegisters s t) (c : Byte) : SameRegisters (s.setChannel c) (t.setChannel c) :=
  ⟨h.status, h.readPointer, rfl, h.unknowns⟩

theorem SameRegisters.withStatus {s t : State} (h : SameRegisters s t) (v : Byte) : SameRegisters (s.withStatus v) (t.withStatus v) :=
  ⟨rfl, h.readPointer, h.selectedChannel, h.unknowns⟩

theorem SameRegisters.doReset {s t : State} (h : SameRegisters s t) : SameRegisters s.doReset t.doReset :=
  ((h.withStatus _).emit _).consume

/-- A store is to the buffer alone. -/
theorem SameRegisters.store_right {s t : State} (h : SameRegisters s t) (b : Byte) : SameRegisters s (t.store b) :=
  ⟨h.status, h.readPointer, h.selectedChannel, h.unknowns⟩

/-- A command does the same to equal registers. -/
theorem SameRegisters.exec {s t u : State} (h : SameRegisters s t) {i : Instr} (hu : exec i s = .next u) :
    ∃ v, exec i t = .next v ∧ SameRegisters u v :=
  exec_related h.doReset (fun p => ((h.setReadPointer p).emit _).consume) (fun p => ((h.setChannel p).emit _).consume)
    (fun _ => (h.emit _).consume) hu

/-- A record of no unknown command changes none of this. -/
theorem SameRegisters.emit_right {s t : State} (h : SameRegisters s t) {r : Diag} (hr : ∀ c, r ≠ .unknown c) :
    SameRegisters s (t.emit r) :=
  ⟨h.status, h.readPointer, h.selectedChannel, fun c => by simp [List.count_append, hr c, h.unknowns c]⟩

/-! ### The two phases of a transaction -/

/-- The transaction that began in `s` has brought the bytes `bs`, and no command of it has been executed. -/
structure Collecting (s : State) (bs : List Byte) (t : State) : Prop where
  holds : t.Holds bs
  rxSkip : t.rxSkip = false
  notReset : bs.head? ≠ some Config.opReset
  same : SameRegisters s t

/-- The command `i` of the transaction that began in `s` has been executed, and the rest is being skipped. -/
structure Done (s : State) (i : Instr) (t : State) : Prop where
  fill : t.fill.val = 0
  rxSkip : t.rxSkip = true
  disp : t.disp = .idle
  result : ∃ u, exec i s = .next u ∧ SameRegisters u t

/-- One phase or the other; the command executed is the one that the bytes begin with. -/
inductive Progress (s : State) (bs : List Byte) (t : State) : Prop where
  | collecting : Collecting s bs t → Progress s bs t
  | done {i : Instr} {rest : List Byte} : decode bs = .ok (i, rest) → Done s i t → Progress s bs t

theorem collecting_rxStart (s : State) : Collecting s [] (rxStart s) :=
  ⟨holds_nil rfl, rfl, nofun, rfl, rfl, rfl, fun _ => rfl⟩

/-- Every command consumes the buffer, so its execution ends the collecting. -/
theorem Collecting.exec {s t : State} {bs : List Byte} (h : Collecting s bs t) {i : Instr} {v : State} (hv : exec i t = .next v) :
    Done s i v := by
  obtain ⟨u, hu⟩ := exec_answers i s
  obtain ⟨v', hv', hsame⟩ := h.same.exec hu
  obtain rfl := Host.Outcome.next.inj (hv'.symm.trans hv)
  refine ⟨?_, ?_, ?_, u, hu, hsame⟩ <;>
    obtain ⟨-, rfl⟩ | ⟨p, -, rfl⟩ | ⟨p, -, rfl⟩ | ⟨-, rfl⟩ := exec_cases hv <;> rfl

theorem Collecting.rxByte {s t : State} {bs : List Byte} (h : Collecting s bs t) (b : Byte) :
    Progress s (bs ++ [b]) (rxByte b t) := by
  by_cases hhead : (bs ++ [b]).head? = some Config.opReset
  · obtain rfl : bs = [] := by
      cases bs with
      | nil => rfl
      | cons c bs => exact absurd hhead h.notReset
    obtain rfl : b = Config.opReset := Option.some.inj hhead
    have h0 : t.fill = 0 := h.holds.fill_eq_zero_iff.2 rfl
    have hreset : Machine.rxByte Config.opReset t = ((t.emit (.rx Config.opReset)).store Config.opReset).doReset := by
      rw [rxByte_eq_ite, if_neg (by simp [h.rxSkip]), if_neg (by simp [h0]), if_pos ⟨h0, rfl⟩]
    rw [hreset]
    have hrx := h.same.emit_right (r := .rx Config.opReset) nofun
    exact .done (decode_reset []) ⟨rfl, rfl, rfl, s.doReset, rfl, (hrx.store_right _).doReset⟩
  · obtain ⟨hholds, ⟨-, h'⟩ | ⟨-, h'⟩⟩ := h.holds.rxByte_cases h.rxSkip hhead <;> rw [h'] at hholds ⊢ <;>
      have hrx := h.same.emit_right (r := .rx b) nofun
    · exact .collecting ⟨hholds, h.rxSkip, hhead, hrx.emit_right nofun⟩
    · exact .collecting ⟨hholds, h.rxSkip, hhead, hrx.store_right b⟩

/-- A `Tick` executes the command that the bytes begin with, or changes no register. -/
theorem Collecting.tick {s t : State} {bs : List Byte} (h : Collecting s bs t) :
    (∃ i rest, decode bs = .ok (i, rest) ∧ Done s i (afterEvent .tick t)) ∨
    (∃ r, decode bs = .error r) ∧ Collecting s bs (afterEvent .tick t) := by
  rcases hd : decode (bs.take 2) with (_ | c) | ⟨i, rest⟩
  · rw [h.holds.afterTick_of_emptyBuffer hd]
    exact .inr ⟨⟨_, decode_eq_of_decode_take_two_eq_error hd⟩, h⟩
  · rw [h.holds.afterTick_of_parameterMissing hd]
    exact .inr ⟨⟨_, decode_eq_of_decode_take_two_eq_error hd⟩, h.holds.await c, h.rxSkip, h.notReset, h.same.status,
      h.same.readPointer, h.same.selectedChannel, h.same.unknowns⟩
  · obtain ⟨v, hv⟩ := exec_answers i t
    have hbs := decode_append hd (bs.drop 2)
    rw [List.take_append_drop] at hbs
    rw [h.holds.afterTick_of_ok hd hv]
    exact .inl ⟨i, _, hbs, h.exec hv⟩

theorem Done.rxByte {s t : State} {i : Instr} (h : Done s i t) (b : Byte) : Done s i (rxByte b t) := by
  obtain ⟨u, hu, hsame⟩ := h.result
  rw [rxByte_eq_ite, if_pos h.rxSkip]
  exact ⟨h.fill, h.rxSkip, h.disp, u, hu, hsame.emit_right nofun⟩

theorem Done.tick {s t : State} {i : Instr} (h : Done s i t) : Done s i (afterEvent .tick t) := by
  rwa [afterTick_of_empty h.fill]

/-- After a complete command, a `Tick` leaves it executed. -/
theorem Progress.tick_done {s t : State} {bs rest : List Byte} {i : Instr} (h : Progress s bs t) (hd : decode bs = .ok (i, rest)) :
    Done s i (afterEvent .tick t) := by
  cases h with
  | collecting h =>
    obtain ⟨i', rest', hd', hdone⟩ | ⟨⟨r, hr⟩, -⟩ := h.tick
    · obtain ⟨rfl, -⟩ := Prod.mk.inj (Except.ok.inj (hd'.symm.trans hd))
      exact hdone
    · exact nomatch hr.symm.trans hd
  | done hd' hdone =>
    obtain ⟨rfl, -⟩ := Prod.mk.inj (Except.ok.inj (hd'.symm.trans hd))
    exact hdone.tick

/-! ### The phases along the transaction's events -/

theorem bytesOf_append (es fs : List Event) : bytesOf (es ++ fs) = bytesOf es ++ bytesOf fs := by
  induction es with
  | nil => rfl
  | cons e es ih => cases e <;> simp [bytesOf, ih]

/-- What every byte and every `Tick` keep holds along a transaction; `P` is told the bytes. -/
theorem afterEvents_of_bytes_and_ticks {P : List Byte → State → Prop}
    (hbyte : ∀ bs t b, P bs t → P (bs ++ [b]) (rxByte b t)) (htick : ∀ bs t, P bs t → P bs (afterEvent .tick t))
    {es : List Event} (hes : ∀ e ∈ es, e.isByteOrTick = true) {bs : List Byte} {t : State} (h : P bs t) :
    P (bs ++ bytesOf es) (afterEvents es t) := by
  induction es generalizing bs t with
  | nil => rwa [bytesOf, List.append_nil]
  | cons e es ih =>
    obtain ⟨he, hes'⟩ := List.forall_mem_cons.1 hes
    cases e with
    | rxByte b =>
      rw [bytesOf, List.append_cons]
      exact ih hes' (hbyte bs t b h)
    | tick => exact ih hes' (htick bs t h)
    | powerOn => exact nomatch he
    | rxStart => exact nomatch he
    | rdReq => exact nomatch he

theorem Done.afterEvents {s t : State} {i : Instr} (h : Done s i t) {es : List Event} (hes : ∀ e ∈ es, e.isByteOrTick = true) :
    Done s i (afterEvents es t) :=
  afterEvents_of_bytes_and_ticks (P := fun _ => Done s i) (fun _ _ b h => h.rxByte b) (fun _ _ h => h.tick) hes (bs := []) h

theorem Progress.rxByte {s t : State} {bs : List Byte} (h : Progress s bs t) (b : Byte) : Progress s (bs ++ [b]) (rxByte b t) := by
  cases h with
  | collecting h => exact h.rxByte b
  | done hd h => exact .done (decode_append hd [b]) (h.rxByte b)

theorem Progress.tick {s t : State} {bs : List Byte} (h : Progress s bs t) : Progress s bs (afterEvent .tick t) := by
  cases h with
  | collecting h =>
    obtain ⟨i, rest, hd, hdone⟩ | ⟨-, h⟩ := h.tick
    · exact .done hd hdone
    · exact .collecting h
  | done hd h => exact .done hd h.tick

theorem Progress.afterEvents {s t : State} {bs : List Byte} (h : Progress s bs t) {es : List Event}
    (hes : ∀ e ∈ es, e.isByteOrTick = true) : Progress s (bs ++ bytesOf es) (afterEvents es t) :=
  afterEvents_of_bytes_and_ticks (fun _ _ b h => h.rxByte b) (fun _ _ h => h.tick) hes h

/-- Bytes that hold no command change no register. -/
theorem Progress.same_of_error {s t : State} {bs : List Byte} {r : DecodeRefusal} (h : Progress s bs t) (hd : decode bs = .error r) :
    SameRegisters s t := by
  cases h with
  | collecting h => exact h.same
  | done hok _ => exact nomatch hd.symm.trans hok

/-- What an executed command has made of the registers. -/
theorem Done.sameRegisters {s t u : State} {i : Instr} (h : Done s i t) (hu : Machine.exec i s = .next u) : SameRegisters u t := by
  obtain ⟨u', hu', hsame⟩ := h.result
  rwa [Host.Outcome.next.inj (hu.symm.trans hu')]

end Machine

open Machine

/-- Settles O42: the command is decided by the bytes before the `Tick`; from then on the transaction is done, and a transaction whose
bytes hold no command is never done. -/
theorem oneCommandPerTransaction : Obligations.OneCommandPerTransaction := by
  intro s before after later hevents hp
  obtain ⟨hbefore, hafter⟩ := List.forall_mem_append.1 hevents
  have hrun := run_eq_afterEvents (s := s) (events := .rxStart :: (before ++ .tick :: after)) (later := later) (by simpa using hp)
  have hlen : (Event.rxStart :: (before ++ .tick :: after)).length = before.length + after.length + 2 := by simp; omega
  rw [hlen] at hrun
  refine ⟨_, hrun, afterEvents_pending _ _, ?_⟩
  rw [afterEvents_cons, afterEvents_append, afterEvents_cons]
  have hprogress := (Progress.collecting (collecting_rxStart (s.withPending later))).afterEvents hbefore
  have hdone : ∀ {i rest}, decode (bytesOf before) = .ok (i, rest) → Done (s.withPending later) i _ :=
    fun hd => (hprogress.tick_done hd).afterEvents hafter
  refine ⟨fun b0 bs hbytes => ⟨?_, ?_, ?_, ?_⟩, fun hnone => ?_⟩
  · rintro rfl
    have h := (hdone (hbytes ▸ decode_reset bs)).sameRegisters rfl
    exact ⟨h.status, h.readPointer, h.selectedChannel⟩
  · rintro p ps rfl rfl
    have h := (hdone (hbytes ▸ decode_setReadPtr (p :: ps))).sameRegisters rfl
    exact ⟨h.readPointer, h.status, h.selectedChannel⟩
  · rintro p ps rfl rfl
    have h := (hdone (hbytes ▸ decode_channelSelect (p :: ps))).sameRegisters rfl
    exact ⟨h.selectedChannel, h.status, h.readPointer⟩
  · intro hreset hptr hch
    have hd := hdone (hbytes ▸ decode_other bs hreset hptr hch)
    have h := hd.sameRegisters (exec_unknownInstr b0 _)
    refine ⟨h.status, h.readPointer, h.selectedChannel, hd.fill, hd.disp, (h.unknowns b0).trans ?_⟩
    simp [State.unknownOutcome]
  · have hend := hprogress.tick.afterEvents hafter
    rw [List.nil_append, ← bytesOf_append] at hend
    have hrefused : ∃ r, decode (bytesOf (before ++ after)) = .error r := by
      obtain hb | hb | hb := hnone <;> rw [hb]
      · exact ⟨_, decode_setReadPtr []⟩
      · exact ⟨_, decode_channelSelect []⟩
      · exact ⟨_, decode_nil⟩
    obtain ⟨r, hr⟩ := hrefused
    have hsame := hend.same_of_error hr
    exact ⟨hsame.status, hsame.readPointer, hsame.selectedChannel⟩

end Sys2Proof
